-- ==== Sys2Proof/Word.lean ====
section
/-! DEFINITION. The two word types of the machine: bytes and addresses (R7, R8). -/

namespace Sys2Proof

/-- An 8-bit unsigned value: a register, a memory byte, an opcode (R7, R8). -/
abbrev Byte := BitVec 8

/-- A 16-bit unsigned address (R7, R50). -/
abbrev Addr := BitVec 16

end Sys2Proof
end

