-- ==== Sys2Proof/Machine/Bits.lean ====
section
/-! DEFINITION. Bit fields, byte order and extension (R9), and the page cross of R87. -/

namespace Sys2Proof

/-- `hi(a) = a[15:8]` (R9); the page of the address a (R11). -/
def hiByte (a : Addr) : Byte := a.extractLsb' 8 8

/-- `lo(a) = a[7:0]` (R9). -/
def loByte (a : Addr) : Byte := a.extractLsb' 0 8

/-- The concatenation of two bytes, hi * 256 + lo (R9). -/
def joinBytes (hi lo : Byte) : Addr := hi ++ lo

/-- `zext_16(v)` (R9). -/
def zext16 (v : Byte) : Addr := v.setWidth 16

/-- `sext_16(v)` (R9). -/
def sext16 (v : Byte) : Addr := v.signExtend 16

/-- R87: a 16-bit result r of adding an offset to the base b crosses a page exactly when
`hi(r) != hi(b)`. -/
def pageCross (r b : Addr) : Bool := hiByte r != hiByte b

/-- `bool(b)` (R9), as a byte. -/
def bit (b : Bool) : Byte := if b then 0x01#8 else 0x00#8

end Sys2Proof
end

