-- ==== Sys2Proof/Syntax.lean ====
section
/-! DEFINITION. The instructions: one constructor for each documented row (mnemonic and mode) of the opcode
table (R72, R73), carrying the row's operand as assembled by R71, and one for the rows that share the mnemonic
"(undocumented)" and the rule R186, carrying the row's opcode (log entry 11). -/

namespace Sys2Proof

/-- An instruction. The mode suffixes are R73's codes; a mnemonic with one mode has no suffix. -/
inductive Instr where
  -- Loads, stores and register transfers (R111 to R122).
  /-- LDA #imm (R111) -/
  | ldaImm (imm : Byte)
  /-- LDA zp (R111) -/
  | ldaZp0 (zp : Byte)
  /-- LDA zp,X (R111) -/
  | ldaZpx (zp : Byte)
  /-- LDA addr (R111) -/
  | ldaAbs (addr : Addr)
  /-- LDA base,X (R111) -/
  | ldaAbx (base : Addr)
  /-- LDA base,Y (R111) -/
  | ldaAby (base : Addr)
  /-- LDA (zp,X) (R111) -/
  | ldaIzx (zp : Byte)
  /-- LDA (zp),Y (R111) -/
  | ldaIzy (zp : Byte)
  /-- LDX #imm (R112) -/
  | ldxImm (imm : Byte)
  /-- LDX zp (R112) -/
  | ldxZp0 (zp : Byte)
  /-- LDX zp,Y (R112) -/
  | ldxZpy (zp : Byte)
  /-- LDX addr (R112) -/
  | ldxAbs (addr : Addr)
  /-- LDX base,Y (R112) -/
  | ldxAby (base : Addr)
  /-- LDY #imm (R113) -/
  | ldyImm (imm : Byte)
  /-- LDY zp (R113) -/
  | ldyZp0 (zp : Byte)
  /-- LDY zp,X (R113) -/
  | ldyZpx (zp : Byte)
  /-- LDY addr (R113) -/
  | ldyAbs (addr : Addr)
  /-- LDY base,X (R113) -/
  | ldyAbx (base : Addr)
  /-- STA zp (R114) -/
  | staZp0 (zp : Byte)
  /-- STA zp,X (R114) -/
  | staZpx (zp : Byte)
  /-- STA addr (R114) -/
  | staAbs (addr : Addr)
  /-- STA base,X (R114) -/
  | staAbx (base : Addr)
  /-- STA base,Y (R114) -/
  | staAby (base : Addr)
  /-- STA (zp,X) (R114) -/
  | staIzx (zp : Byte)
  /-- STA (zp),Y (R114) -/
  | staIzy (zp : Byte)
  /-- STX zp (R115) -/
  | stxZp0 (zp : Byte)
  /-- STX zp,Y (R115) -/
  | stxZpy (zp : Byte)
  /-- STX addr (R115) -/
  | stxAbs (addr : Addr)
  /-- STY zp (R116) -/
  | styZp0 (zp : Byte)
  /-- STY zp,X (R116) -/
  | styZpx (zp : Byte)
  /-- STY addr (R116) -/
  | styAbs (addr : Addr)
  /-- TAX (R117) -/
  | tax
  /-- TAY (R118) -/
  | tay
  /-- TXA (R119) -/
  | txa
  /-- TYA (R120) -/
  | tya
  /-- TSX (R121) -/
  | tsx
  /-- TXS (R122) -/
  | txs
  -- Stack instructions (R126 to R129).
  /-- PHA (R126) -/
  | pha
  /-- PHP (R127) -/
  | php
  /-- PLA (R128) -/
  | pla
  /-- PLP (R129) -/
  | plp
  -- Arithmetic, compare, increment and decrement (R132 to R143).
  /-- ADC #imm (R132) -/
  | adcImm (imm : Byte)
  /-- ADC zp (R132) -/
  | adcZp0 (zp : Byte)
  /-- ADC zp,X (R132) -/
  | adcZpx (zp : Byte)
  /-- ADC addr (R132) -/
  | adcAbs (addr : Addr)
  /-- ADC base,X (R132) -/
  | adcAbx (base : Addr)
  /-- ADC base,Y (R132) -/
  | adcAby (base : Addr)
  /-- ADC (zp,X) (R132) -/
  | adcIzx (zp : Byte)
  /-- ADC (zp),Y (R132) -/
  | adcIzy (zp : Byte)
  /-- SBC #imm (R133) -/
  | sbcImm (imm : Byte)
  /-- SBC zp (R133) -/
  | sbcZp0 (zp : Byte)
  /-- SBC zp,X (R133) -/
  | sbcZpx (zp : Byte)
  /-- SBC addr (R133) -/
  | sbcAbs (addr : Addr)
  /-- SBC base,X (R133) -/
  | sbcAbx (base : Addr)
  /-- SBC base,Y (R133) -/
  | sbcAby (base : Addr)
  /-- SBC (zp,X) (R133) -/
  | sbcIzx (zp : Byte)
  /-- SBC (zp),Y (R133) -/
  | sbcIzy (zp : Byte)
  /-- CMP #imm (R135) -/
  | cmpImm (imm : Byte)
  /-- CMP zp (R135) -/
  | cmpZp0 (zp : Byte)
  /-- CMP zp,X (R135) -/
  | cmpZpx (zp : Byte)
  /-- CMP addr (R135) -/
  | cmpAbs (addr : Addr)
  /-- CMP base,X (R135) -/
  | cmpAbx (base : Addr)
  /-- CMP base,Y (R135) -/
  | cmpAby (base : Addr)
  /-- CMP (zp,X) (R135) -/
  | cmpIzx (zp : Byte)
  /-- CMP (zp),Y (R135) -/
  | cmpIzy (zp : Byte)
  /-- CPX #imm (R136) -/
  | cpxImm (imm : Byte)
  /-- CPX zp (R136) -/
  | cpxZp0 (zp : Byte)
  /-- CPX addr (R136) -/
  | cpxAbs (addr : Addr)
  /-- CPY #imm (R137) -/
  | cpyImm (imm : Byte)
  /-- CPY zp (R137) -/
  | cpyZp0 (zp : Byte)
  /-- CPY addr (R137) -/
  | cpyAbs (addr : Addr)
  /-- INC zp (R138) -/
  | incZp0 (zp : Byte)
  /-- INC zp,X (R138) -/
  | incZpx (zp : Byte)
  /-- INC addr (R138) -/
  | incAbs (addr : Addr)
  /-- INC base,X (R138) -/
  | incAbx (base : Addr)
  /-- DEC zp (R139) -/
  | decZp0 (zp : Byte)
  /-- DEC zp,X (R139) -/
  | decZpx (zp : Byte)
  /-- DEC addr (R139) -/
  | decAbs (addr : Addr)
  /-- DEC base,X (R139) -/
  | decAbx (base : Addr)
  /-- INX (R140) -/
  | inx
  /-- INY (R141) -/
  | iny
  /-- DEX (R142) -/
  | dex
  /-- DEY (R143) -/
  | dey
  -- Logical, bit-test, shift and rotate instructions (R146 to R153).
  /-- AND #imm (R146) -/
  | andImm (imm : Byte)
  /-- AND zp (R146) -/
  | andZp0 (zp : Byte)
  /-- AND zp,X (R146) -/
  | andZpx (zp : Byte)
  /-- AND addr (R146) -/
  | andAbs (addr : Addr)
  /-- AND base,X (R146) -/
  | andAbx (base : Addr)
  /-- AND base,Y (R146) -/
  | andAby (base : Addr)
  /-- AND (zp,X) (R146) -/
  | andIzx (zp : Byte)
  /-- AND (zp),Y (R146) -/
  | andIzy (zp : Byte)
  /-- EOR #imm (R147) -/
  | eorImm (imm : Byte)
  /-- EOR zp (R147) -/
  | eorZp0 (zp : Byte)
  /-- EOR zp,X (R147) -/
  | eorZpx (zp : Byte)
  /-- EOR addr (R147) -/
  | eorAbs (addr : Addr)
  /-- EOR base,X (R147) -/
  | eorAbx (base : Addr)
  /-- EOR base,Y (R147) -/
  | eorAby (base : Addr)
  /-- EOR (zp,X) (R147) -/
  | eorIzx (zp : Byte)
  /-- EOR (zp),Y (R147) -/
  | eorIzy (zp : Byte)
  /-- ORA #imm (R148) -/
  | oraImm (imm : Byte)
  /-- ORA zp (R148) -/
  | oraZp0 (zp : Byte)
  /-- ORA zp,X (R148) -/
  | oraZpx (zp : Byte)
  /-- ORA addr (R148) -/
  | oraAbs (addr : Addr)
  /-- ORA base,X (R148) -/
  | oraAbx (base : Addr)
  /-- ORA base,Y (R148) -/
  | oraAby (base : Addr)
  /-- ORA (zp,X) (R148) -/
  | oraIzx (zp : Byte)
  /-- ORA (zp),Y (R148) -/
  | oraIzy (zp : Byte)
  /-- BIT zp (R149) -/
  | bitZp0 (zp : Byte)
  /-- BIT addr (R149) -/
  | bitAbs (addr : Addr)
  /-- ASL A (R150) -/
  | aslAcc
  /-- ASL zp (R150) -/
  | aslZp0 (zp : Byte)
  /-- ASL zp,X (R150) -/
  | aslZpx (zp : Byte)
  /-- ASL addr (R150) -/
  | aslAbs (addr : Addr)
  /-- ASL base,X (R150) -/
  | aslAbx (base : Addr)
  /-- LSR A (R151) -/
  | lsrAcc
  /-- LSR zp (R151) -/
  | lsrZp0 (zp : Byte)
  /-- LSR zp,X (R151) -/
  | lsrZpx (zp : Byte)
  /-- LSR addr (R151) -/
  | lsrAbs (addr : Addr)
  /-- LSR base,X (R151) -/
  | lsrAbx (base : Addr)
  /-- ROL A (R152) -/
  | rolAcc
  /-- ROL zp (R152) -/
  | rolZp0 (zp : Byte)
  /-- ROL zp,X (R152) -/
  | rolZpx (zp : Byte)
  /-- ROL addr (R152) -/
  | rolAbs (addr : Addr)
  /-- ROL base,X (R152) -/
  | rolAbx (base : Addr)
  /-- ROR A (R153) -/
  | rorAcc
  /-- ROR zp (R153) -/
  | rorZp0 (zp : Byte)
  /-- ROR zp,X (R153) -/
  | rorZpx (zp : Byte)
  /-- ROR addr (R153) -/
  | rorAbs (addr : Addr)
  /-- ROR base,X (R153) -/
  | rorAbx (base : Addr)
  -- Jumps, subroutine calls and branches (R161 to R172).
  /-- JSR addr (R161) -/
  | jsr (addr : Addr)
  /-- RTS (R162) -/
  | rts
  /-- BCC disp (R164) -/
  | bcc (disp : Byte)
  /-- BCS disp (R165) -/
  | bcs (disp : Byte)
  /-- BEQ disp (R166) -/
  | beq (disp : Byte)
  /-- BMI disp (R167) -/
  | bmi (disp : Byte)
  /-- BNE disp (R168) -/
  | bne (disp : Byte)
  /-- BPL disp (R169) -/
  | bpl (disp : Byte)
  /-- BVC disp (R170) -/
  | bvc (disp : Byte)
  /-- BVS disp (R171) -/
  | bvs (disp : Byte)
  /-- JMP addr (R172) -/
  | jmpAbs (addr : Addr)
  /-- JMP (ptr) (R172) -/
  | jmpInd (ptr : Addr)
  -- Flag, system and no-operation instructions (R176 to R185).
  /-- CLC (R176) -/
  | clc
  /-- CLD (R177) -/
  | cld
  /-- CLI (R178) -/
  | cli
  /-- CLV (R179) -/
  | clv
  /-- SEC (R180) -/
  | sec
  /-- SED (R181) -/
  | sed
  /-- SEI (R182) -/
  | sei
  /-- BRK (R183) -/
  | brk
  /-- RTI (R184) -/
  | rti
  /-- NOP (R185) -/
  | nop
  -- The undocumented opcodes of R99.
  /-- an undocumented opcode (R186) -/
  | undocumented (op : Byte)
deriving DecidableEq, Repr

end Sys2Proof
end

