-- ==== Sys2Proof/WellFormed.lean ====
section
/-! DEFINITION. Which instructions the encoding admits. Every operand of a documented row is a byte or an
address with every value admitted (R70, R71); an undocumented instruction names one of the 105 opcodes of R99. -/

namespace Sys2Proof

/-- The 105 undocumented opcodes, in R99's order. -/
def undocumentedOpcodes : List Byte :=
  [0x02#8, 0x03#8, 0x04#8, 0x07#8, 0x0B#8, 0x0C#8, 0x0F#8, 0x12#8, 0x13#8, 0x14#8, 0x17#8, 0x1A#8, 0x1B#8,
    0x1C#8, 0x1F#8] ++
  [0x22#8, 0x23#8, 0x27#8, 0x2B#8, 0x2F#8, 0x32#8, 0x33#8, 0x34#8, 0x37#8, 0x3A#8, 0x3B#8, 0x3C#8, 0x3F#8,
    0x42#8, 0x43#8] ++
  [0x44#8, 0x47#8, 0x4B#8, 0x4F#8, 0x52#8, 0x53#8, 0x54#8, 0x57#8, 0x5A#8, 0x5B#8, 0x5C#8, 0x5F#8, 0x62#8,
    0x63#8, 0x64#8] ++
  [0x67#8, 0x6B#8, 0x6F#8, 0x72#8, 0x73#8, 0x74#8, 0x77#8, 0x7A#8, 0x7B#8, 0x7C#8, 0x7F#8, 0x80#8, 0x82#8,
    0x83#8, 0x87#8] ++
  [0x89#8, 0x8B#8, 0x8F#8, 0x92#8, 0x93#8, 0x97#8, 0x9B#8, 0x9C#8, 0x9E#8, 0x9F#8, 0xA3#8, 0xA7#8, 0xAB#8,
    0xAF#8, 0xB2#8] ++
  [0xB3#8, 0xB7#8, 0xBB#8, 0xBF#8, 0xC2#8, 0xC3#8, 0xC7#8, 0xCB#8, 0xCF#8, 0xD2#8, 0xD3#8, 0xD4#8, 0xD7#8,
    0xDA#8, 0xDB#8] ++
  [0xDC#8, 0xDF#8, 0xE2#8, 0xE3#8, 0xE7#8, 0xEB#8, 0xEF#8, 0xF2#8, 0xF3#8, 0xF4#8, 0xF7#8, 0xFA#8, 0xFB#8,
    0xFC#8, 0xFF#8]

/-- R99: the opcode is not in the map of R72. -/
def isUndocumented (op : Byte) : Bool := undocumentedOpcodes.contains op

/-- The instruction is one the encoding admits. -/
def Instr.wellFormed : Instr → Bool
  | .ldaImm _ | .ldaZp0 _ | .ldaZpx _ | .ldaAbs _ | .ldaAbx _ | .ldaAby _ | .ldaIzx _ | .ldaIzy _ |
    .ldxImm _ | .ldxZp0 _ | .ldxZpy _ | .ldxAbs _ | .ldxAby _ | .ldyImm _ | .ldyZp0 _ | .ldyZpx _ |
    .ldyAbs _ | .ldyAbx _ | .staZp0 _ | .staZpx _ | .staAbs _ | .staAbx _ | .staAby _ | .staIzx _ |
    .staIzy _ | .stxZp0 _ | .stxZpy _ | .stxAbs _ | .styZp0 _ | .styZpx _ | .styAbs _ | .tax | .tay | .txa |
    .tya | .tsx | .txs | .pha | .php | .pla | .plp | .adcImm _ | .adcZp0 _ | .adcZpx _ | .adcAbs _ |
    .adcAbx _ | .adcAby _ | .adcIzx _ | .adcIzy _ | .sbcImm _ | .sbcZp0 _ | .sbcZpx _ | .sbcAbs _ |
    .sbcAbx _ | .sbcAby _ | .sbcIzx _ | .sbcIzy _ | .cmpImm _ | .cmpZp0 _ | .cmpZpx _ | .cmpAbs _ |
    .cmpAbx _ | .cmpAby _ | .cmpIzx _ | .cmpIzy _ | .cpxImm _ | .cpxZp0 _ | .cpxAbs _ | .cpyImm _ |
    .cpyZp0 _ | .cpyAbs _ | .incZp0 _ | .incZpx _ | .incAbs _ | .incAbx _ | .decZp0 _ | .decZpx _ |
    .decAbs _ | .decAbx _ | .inx | .iny | .dex | .dey | .andImm _ | .andZp0 _ | .andZpx _ | .andAbs _ |
    .andAbx _ | .andAby _ | .andIzx _ | .andIzy _ | .eorImm _ | .eorZp0 _ | .eorZpx _ | .eorAbs _ |
    .eorAbx _ | .eorAby _ | .eorIzx _ | .eorIzy _ | .oraImm _ | .oraZp0 _ | .oraZpx _ | .oraAbs _ |
    .oraAbx _ | .oraAby _ | .oraIzx _ | .oraIzy _ | .bitZp0 _ | .bitAbs _ | .aslAcc | .aslZp0 _ | .aslZpx _ |
    .aslAbs _ | .aslAbx _ | .lsrAcc | .lsrZp0 _ | .lsrZpx _ | .lsrAbs _ | .lsrAbx _ | .rolAcc | .rolZp0 _ |
    .rolZpx _ | .rolAbs _ | .rolAbx _ | .rorAcc | .rorZp0 _ | .rorZpx _ | .rorAbs _ | .rorAbx _ | .jsr _ |
    .rts | .bcc _ | .bcs _ | .beq _ | .bmi _ | .bne _ | .bpl _ | .bvc _ | .bvs _ | .jmpAbs _ | .jmpInd _ |
    .clc | .cld | .cli | .clv | .sec | .sed | .sei | .brk | .rti | .nop => true
  | .undocumented op => isUndocumented op

end Sys2Proof
end

