-- ==== Sys2Proof/Decode.lean ====
section
/-! DEFINITION. The instruction decoder: the dispatch table of R72 and R93, the decoder, the encoder, and the
layout of an opcode-table word. -/

namespace Sys2Proof

/-- What a row of the dispatch table builds from the operand bytes that follow the opcode (R70, R71). -/
inductive Format where
  /-- F1: no operand byte -/
  | f1 (i : Instr)
  /-- F2: one operand byte -/
  | f2 (f : Byte → Instr)
  /-- F3: two operand bytes, the low byte first -/
  | f3 (f : Addr → Instr)

/-- The operand byte count of a format (R70). -/
def Format.operandBytes : Format → Nat
  | .f1 _ => 0
  | .f2 _ => 1
  | .f3 _ => 2

/-- The instruction a format builds; an operand byte the format does not have is not looked at (R71). -/
def Format.build (b1 b2 : Byte) : Format → Instr
  | .f1 i => i
  | .f2 f => f b1
  | .f3 f => f (joinBytes b2 b1)

/-- A row of the dispatch table (R92, R93): the instruction with its mode, and the base cycle count; a
placeholder has neither (R93, R99). -/
inductive Row where
  | documented (format : Format) (baseCycles : Byte)
  | placeholder

/-- Row 0x of the opcode map (R72). -/
def opcodeRow0 : List Row :=
  [.documented (.f1 .brk) 7, .documented (.f2 .oraIzx) 6, .placeholder, .placeholder, .placeholder,
   .documented (.f2 .oraZp0) 3, .documented (.f2 .aslZp0) 5, .placeholder, .documented (.f1 .php) 3,
   .documented (.f2 .oraImm) 2, .documented (.f1 .aslAcc) 2, .placeholder, .placeholder,
   .documented (.f3 .oraAbs) 4, .documented (.f3 .aslAbs) 6, .placeholder]

/-- Row 1x of the opcode map (R72). -/
def opcodeRow1 : List Row :=
  [.documented (.f2 .bpl) 2, .documented (.f2 .oraIzy) 5, .placeholder, .placeholder, .placeholder,
   .documented (.f2 .oraZpx) 4, .documented (.f2 .aslZpx) 6, .placeholder, .documented (.f1 .clc) 2,
   .documented (.f3 .oraAby) 4, .placeholder, .placeholder, .placeholder, .documented (.f3 .oraAbx) 4,
   .documented (.f3 .aslAbx) 7, .placeholder]

/-- Row 2x of the opcode map (R72). -/
def opcodeRow2 : List Row :=
  [.documented (.f3 .jsr) 6, .documented (.f2 .andIzx) 6, .placeholder, .placeholder,
   .documented (.f2 .bitZp0) 3, .documented (.f2 .andZp0) 3, .documented (.f2 .rolZp0) 5, .placeholder,
   .documented (.f1 .plp) 4, .documented (.f2 .andImm) 2, .documented (.f1 .rolAcc) 2, .placeholder,
   .documented (.f3 .bitAbs) 4, .documented (.f3 .andAbs) 4, .documented (.f3 .rolAbs) 6, .placeholder]

/-- Row 3x of the opcode map (R72). -/
def opcodeRow3 : List Row :=
  [.documented (.f2 .bmi) 2, .documented (.f2 .andIzy) 5, .placeholder, .placeholder, .placeholder,
   .documented (.f2 .andZpx) 4, .documented (.f2 .rolZpx) 6, .placeholder, .documented (.f1 .sec) 2,
   .documented (.f3 .andAby) 4, .placeholder, .placeholder, .placeholder, .documented (.f3 .andAbx) 4,
   .documented (.f3 .rolAbx) 7, .placeholder]

/-- Row 4x of the opcode map (R72). -/
def opcodeRow4 : List Row :=
  [.documented (.f1 .rti) 6, .documented (.f2 .eorIzx) 6, .placeholder, .placeholder, .placeholder,
   .documented (.f2 .eorZp0) 3, .documented (.f2 .lsrZp0) 5, .placeholder, .documented (.f1 .pha) 3,
   .documented (.f2 .eorImm) 2, .documented (.f1 .lsrAcc) 2, .placeholder, .documented (.f3 .jmpAbs) 3,
   .documented (.f3 .eorAbs) 4, .documented (.f3 .lsrAbs) 6, .placeholder]

/-- Row 5x of the opcode map (R72). -/
def opcodeRow5 : List Row :=
  [.documented (.f2 .bvc) 2, .documented (.f2 .eorIzy) 5, .placeholder, .placeholder, .placeholder,
   .documented (.f2 .eorZpx) 4, .documented (.f2 .lsrZpx) 6, .placeholder, .documented (.f1 .cli) 2,
   .documented (.f3 .eorAby) 4, .placeholder, .placeholder, .placeholder, .documented (.f3 .eorAbx) 4,
   .documented (.f3 .lsrAbx) 7, .placeholder]

/-- Row 6x of the opcode map (R72). -/
def opcodeRow6 : List Row :=
  [.documented (.f1 .rts) 6, .documented (.f2 .adcIzx) 6, .placeholder, .placeholder, .placeholder,
   .documented (.f2 .adcZp0) 3, .documented (.f2 .rorZp0) 5, .placeholder, .documented (.f1 .pla) 4,
   .documented (.f2 .adcImm) 2, .documented (.f1 .rorAcc) 2, .placeholder, .documented (.f3 .jmpInd) 5,
   .documented (.f3 .adcAbs) 4, .documented (.f3 .rorAbs) 6, .placeholder]

/-- Row 7x of the opcode map (R72). -/
def opcodeRow7 : List Row :=
  [.documented (.f2 .bvs) 2, .documented (.f2 .adcIzy) 5, .placeholder, .placeholder, .placeholder,
   .documented (.f2 .adcZpx) 4, .documented (.f2 .rorZpx) 6, .placeholder, .documented (.f1 .sei) 2,
   .documented (.f3 .adcAby) 4, .placeholder, .placeholder, .placeholder, .documented (.f3 .adcAbx) 4,
   .documented (.f3 .rorAbx) 7, .placeholder]

/-- Row 8x of the opcode map (R72). -/
def opcodeRow8 : List Row :=
  [.placeholder, .documented (.f2 .staIzx) 6, .placeholder, .placeholder, .documented (.f2 .styZp0) 3,
   .documented (.f2 .staZp0) 3, .documented (.f2 .stxZp0) 3, .placeholder, .documented (.f1 .dey) 2,
   .placeholder, .documented (.f1 .txa) 2, .placeholder, .documented (.f3 .styAbs) 4,
   .documented (.f3 .staAbs) 4, .documented (.f3 .stxAbs) 4, .placeholder]

/-- Row 9x of the opcode map (R72). -/
def opcodeRow9 : List Row :=
  [.documented (.f2 .bcc) 2, .documented (.f2 .staIzy) 6, .placeholder, .placeholder,
   .documented (.f2 .styZpx) 4, .documented (.f2 .staZpx) 4, .documented (.f2 .stxZpy) 4, .placeholder,
   .documented (.f1 .tya) 2, .documented (.f3 .staAby) 5, .documented (.f1 .txs) 2, .placeholder,
   .placeholder, .documented (.f3 .staAbx) 5, .placeholder, .placeholder]

/-- Row Ax of the opcode map (R72). -/
def opcodeRowA : List Row :=
  [.documented (.f2 .ldyImm) 2, .documented (.f2 .ldaIzx) 6, .documented (.f2 .ldxImm) 2, .placeholder,
   .documented (.f2 .ldyZp0) 3, .documented (.f2 .ldaZp0) 3, .documented (.f2 .ldxZp0) 3, .placeholder,
   .documented (.f1 .tay) 2, .documented (.f2 .ldaImm) 2, .documented (.f1 .tax) 2, .placeholder,
   .documented (.f3 .ldyAbs) 4, .documented (.f3 .ldaAbs) 4, .documented (.f3 .ldxAbs) 4, .placeholder]

/-- Row Bx of the opcode map (R72). -/
def opcodeRowB : List Row :=
  [.documented (.f2 .bcs) 2, .documented (.f2 .ldaIzy) 5, .placeholder, .placeholder,
   .documented (.f2 .ldyZpx) 4, .documented (.f2 .ldaZpx) 4, .documented (.f2 .ldxZpy) 4, .placeholder,
   .documented (.f1 .clv) 2, .documented (.f3 .ldaAby) 4, .documented (.f1 .tsx) 2, .placeholder,
   .documented (.f3 .ldyAbx) 4, .documented (.f3 .ldaAbx) 4, .documented (.f3 .ldxAby) 4, .placeholder]

/-- Row Cx of the opcode map (R72). -/
def opcodeRowC : List Row :=
  [.documented (.f2 .cpyImm) 2, .documented (.f2 .cmpIzx) 6, .placeholder, .placeholder,
   .documented (.f2 .cpyZp0) 3, .documented (.f2 .cmpZp0) 3, .documented (.f2 .decZp0) 5, .placeholder,
   .documented (.f1 .iny) 2, .documented (.f2 .cmpImm) 2, .documented (.f1 .dex) 2, .placeholder,
   .documented (.f3 .cpyAbs) 4, .documented (.f3 .cmpAbs) 4, .documented (.f3 .decAbs) 6, .placeholder]

/-- Row Dx of the opcode map (R72). -/
def opcodeRowD : List Row :=
  [.documented (.f2 .bne) 2, .documented (.f2 .cmpIzy) 5, .placeholder, .placeholder, .placeholder,
   .documented (.f2 .cmpZpx) 4, .documented (.f2 .decZpx) 6, .placeholder, .documented (.f1 .cld) 2,
   .documented (.f3 .cmpAby) 4, .placeholder, .placeholder, .placeholder, .documented (.f3 .cmpAbx) 4,
   .documented (.f3 .decAbx) 7, .placeholder]

/-- Row Ex of the opcode map (R72). -/
def opcodeRowE : List Row :=
  [.documented (.f2 .cpxImm) 2, .documented (.f2 .sbcIzx) 6, .placeholder, .placeholder,
   .documented (.f2 .cpxZp0) 3, .documented (.f2 .sbcZp0) 3, .documented (.f2 .incZp0) 5, .placeholder,
   .documented (.f1 .inx) 2, .documented (.f2 .sbcImm) 2, .documented (.f1 .nop) 2, .placeholder,
   .documented (.f3 .cpxAbs) 4, .documented (.f3 .sbcAbs) 4, .documented (.f3 .incAbs) 6, .placeholder]

/-- Row Fx of the opcode map (R72). -/
def opcodeRowF : List Row :=
  [.documented (.f2 .beq) 2, .documented (.f2 .sbcIzy) 5, .placeholder, .placeholder, .placeholder,
   .documented (.f2 .sbcZpx) 4, .documented (.f2 .incZpx) 6, .placeholder, .documented (.f1 .sed) 2,
   .documented (.f3 .sbcAby) 4, .placeholder, .placeholder, .placeholder, .documented (.f3 .sbcAbx) 4,
   .documented (.f3 .incAbx) 7, .placeholder]

/-- The opcode map of R72, by high and low nibble. -/
def opcodeMap : List (List Row) :=
  [opcodeRow0, opcodeRow1, opcodeRow2, opcodeRow3, opcodeRow4, opcodeRow5, opcodeRow6, opcodeRow7] ++
  [opcodeRow8, opcodeRow9, opcodeRowA, opcodeRowB, opcodeRowC, opcodeRowD, opcodeRowE, opcodeRowF]

/-- `DISPATCH[opcode]` (R93). -/
def dispatch (op : Byte) : Row := (opcodeMap.getD (op.toNat / 16) []).getD (op.toNat % 16) .placeholder

/-- The format of an opcode; a placeholder is one byte long (R99, R186). -/
def opcodeFormat (op : Byte) : Format :=
  match dispatch op with
  | .documented f _ => f
  | .placeholder => .f1 (.undocumented op)

/-- The base cycle count of an opcode (R72, R92); none for a placeholder, whose cost is a parameter (R186). -/
def opcodeBaseCycles (op : Byte) : Option Byte :=
  match dispatch op with
  | .documented _ n => some n
  | .placeholder => none

/-- R100: the instruction length in bytes, from the opcode alone. -/
def opcodeLength (op : Byte) : Nat := (opcodeFormat op).operandBytes + 1

/-- The instruction in a window of three bytes, which is as long as any instruction (R70). -/
def decodeWindow (b0 b1 b2 : Byte) : Instr := (opcodeFormat b0).build b1 b2

/-- Why a byte sequence holds no instruction. -/
inductive DecodeError where
  /-- there is no byte -/
  | noBytes
  /-- the sequence ends inside the instruction of this opcode -/
  | truncated (op : Byte)
deriving DecidableEq, Repr

/-- Decode the instruction at the head of a byte sequence; the rest is answered with it. Every opcode byte has
one meaning, so only a sequence that is too short is rejected. -/
def decode : List Byte → Except DecodeError (Instr × List Byte)
  | [] => .error .noBytes
  | op :: rest =>
    if rest.length < (opcodeFormat op).operandBytes then .error (.truncated op)
    else .ok (decodeWindow op (rest.getD 0 0x00#8) (rest.getD 1 0x00#8), rest.drop (opcodeFormat op).operandBytes)

/-- The bytes of an F3 instruction: opcode, low operand byte, high operand byte (R70, R71). -/
def encodeAbs (op : Byte) (operand : Addr) : List Byte := [op, loByte operand, hiByte operand]

/-- The bytes of an instruction, from the encodings of the opcode table (R70, R111 to R186). -/
def encode : Instr → List Byte
  | .ldaImm imm => [0xA9#8, imm]
  | .ldaZp0 zp => [0xA5#8, zp]
  | .ldaZpx zp => [0xB5#8, zp]
  | .ldaAbs addr => encodeAbs 0xAD#8 addr
  | .ldaAbx base => encodeAbs 0xBD#8 base
  | .ldaAby base => encodeAbs 0xB9#8 base
  | .ldaIzx zp => [0xA1#8, zp]
  | .ldaIzy zp => [0xB1#8, zp]
  | .ldxImm imm => [0xA2#8, imm]
  | .ldxZp0 zp => [0xA6#8, zp]
  | .ldxZpy zp => [0xB6#8, zp]
  | .ldxAbs addr => encodeAbs 0xAE#8 addr
  | .ldxAby base => encodeAbs 0xBE#8 base
  | .ldyImm imm => [0xA0#8, imm]
  | .ldyZp0 zp => [0xA4#8, zp]
  | .ldyZpx zp => [0xB4#8, zp]
  | .ldyAbs addr => encodeAbs 0xAC#8 addr
  | .ldyAbx base => encodeAbs 0xBC#8 base
  | .staZp0 zp => [0x85#8, zp]
  | .staZpx zp => [0x95#8, zp]
  | .staAbs addr => encodeAbs 0x8D#8 addr
  | .staAbx base => encodeAbs 0x9D#8 base
  | .staAby base => encodeAbs 0x99#8 base
  | .staIzx zp => [0x81#8, zp]
  | .staIzy zp => [0x91#8, zp]
  | .stxZp0 zp => [0x86#8, zp]
  | .stxZpy zp => [0x96#8, zp]
  | .stxAbs addr => encodeAbs 0x8E#8 addr
  | .styZp0 zp => [0x84#8, zp]
  | .styZpx zp => [0x94#8, zp]
  | .styAbs addr => encodeAbs 0x8C#8 addr
  | .tax => [0xAA#8]
  | .tay => [0xA8#8]
  | .txa => [0x8A#8]
  | .tya => [0x98#8]
  | .tsx => [0xBA#8]
  | .txs => [0x9A#8]
  | .pha => [0x48#8]
  | .php => [0x08#8]
  | .pla => [0x68#8]
  | .plp => [0x28#8]
  | .adcImm imm => [0x69#8, imm]
  | .adcZp0 zp => [0x65#8, zp]
  | .adcZpx zp => [0x75#8, zp]
  | .adcAbs addr => encodeAbs 0x6D#8 addr
  | .adcAbx base => encodeAbs 0x7D#8 base
  | .adcAby base => encodeAbs 0x79#8 base
  | .adcIzx zp => [0x61#8, zp]
  | .adcIzy zp => [0x71#8, zp]
  | .sbcImm imm => [0xE9#8, imm]
  | .sbcZp0 zp => [0xE5#8, zp]
  | .sbcZpx zp => [0xF5#8, zp]
  | .sbcAbs addr => encodeAbs 0xED#8 addr
  | .sbcAbx base => encodeAbs 0xFD#8 base
  | .sbcAby base => encodeAbs 0xF9#8 base
  | .sbcIzx zp => [0xE1#8, zp]
  | .sbcIzy zp => [0xF1#8, zp]
  | .cmpImm imm => [0xC9#8, imm]
  | .cmpZp0 zp => [0xC5#8, zp]
  | .cmpZpx zp => [0xD5#8, zp]
  | .cmpAbs addr => encodeAbs 0xCD#8 addr
  | .cmpAbx base => encodeAbs 0xDD#8 base
  | .cmpAby base => encodeAbs 0xD9#8 base
  | .cmpIzx zp => [0xC1#8, zp]
  | .cmpIzy zp => [0xD1#8, zp]
  | .cpxImm imm => [0xE0#8, imm]
  | .cpxZp0 zp => [0xE4#8, zp]
  | .cpxAbs addr => encodeAbs 0xEC#8 addr
  | .cpyImm imm => [0xC0#8, imm]
  | .cpyZp0 zp => [0xC4#8, zp]
  | .cpyAbs addr => encodeAbs 0xCC#8 addr
  | .incZp0 zp => [0xE6#8, zp]
  | .incZpx zp => [0xF6#8, zp]
  | .incAbs addr => encodeAbs 0xEE#8 addr
  | .incAbx base => encodeAbs 0xFE#8 base
  | .decZp0 zp => [0xC6#8, zp]
  | .decZpx zp => [0xD6#8, zp]
  | .decAbs addr => encodeAbs 0xCE#8 addr
  | .decAbx base => encodeAbs 0xDE#8 base
  | .inx => [0xE8#8]
  | .iny => [0xC8#8]
  | .dex => [0xCA#8]
  | .dey => [0x88#8]
  | .andImm imm => [0x29#8, imm]
  | .andZp0 zp => [0x25#8, zp]
  | .andZpx zp => [0x35#8, zp]
  | .andAbs addr => encodeAbs 0x2D#8 addr
  | .andAbx base => encodeAbs 0x3D#8 base
  | .andAby base => encodeAbs 0x39#8 base
  | .andIzx zp => [0x21#8, zp]
  | .andIzy zp => [0x31#8, zp]
  | .eorImm imm => [0x49#8, imm]
  | .eorZp0 zp => [0x45#8, zp]
  | .eorZpx zp => [0x55#8, zp]
  | .eorAbs addr => encodeAbs 0x4D#8 addr
  | .eorAbx base => encodeAbs 0x5D#8 base
  | .eorAby base => encodeAbs 0x59#8 base
  | .eorIzx zp => [0x41#8, zp]
  | .eorIzy zp => [0x51#8, zp]
  | .oraImm imm => [0x09#8, imm]
  | .oraZp0 zp => [0x05#8, zp]
  | .oraZpx zp => [0x15#8, zp]
  | .oraAbs addr => encodeAbs 0x0D#8 addr
  | .oraAbx base => encodeAbs 0x1D#8 base
  | .oraAby base => encodeAbs 0x19#8 base
  | .oraIzx zp => [0x01#8, zp]
  | .oraIzy zp => [0x11#8, zp]
  | .bitZp0 zp => [0x24#8, zp]
  | .bitAbs addr => encodeAbs 0x2C#8 addr
  | .aslAcc => [0x0A#8]
  | .aslZp0 zp => [0x06#8, zp]
  | .aslZpx zp => [0x16#8, zp]
  | .aslAbs addr => encodeAbs 0x0E#8 addr
  | .aslAbx base => encodeAbs 0x1E#8 base
  | .lsrAcc => [0x4A#8]
  | .lsrZp0 zp => [0x46#8, zp]
  | .lsrZpx zp => [0x56#8, zp]
  | .lsrAbs addr => encodeAbs 0x4E#8 addr
  | .lsrAbx base => encodeAbs 0x5E#8 base
  | .rolAcc => [0x2A#8]
  | .rolZp0 zp => [0x26#8, zp]
  | .rolZpx zp => [0x36#8, zp]
  | .rolAbs addr => encodeAbs 0x2E#8 addr
  | .rolAbx base => encodeAbs 0x3E#8 base
  | .rorAcc => [0x6A#8]
  | .rorZp0 zp => [0x66#8, zp]
  | .rorZpx zp => [0x76#8, zp]
  | .rorAbs addr => encodeAbs 0x6E#8 addr
  | .rorAbx base => encodeAbs 0x7E#8 base
  | .jsr addr => encodeAbs 0x20#8 addr
  | .rts => [0x60#8]
  | .bcc disp => [0x90#8, disp]
  | .bcs disp => [0xB0#8, disp]
  | .beq disp => [0xF0#8, disp]
  | .bmi disp => [0x30#8, disp]
  | .bne disp => [0xD0#8, disp]
  | .bpl disp => [0x10#8, disp]
  | .bvc disp => [0x50#8, disp]
  | .bvs disp => [0x70#8, disp]
  | .jmpAbs addr => encodeAbs 0x4C#8 addr
  | .jmpInd ptr => encodeAbs 0x6C#8 ptr
  | .clc => [0x18#8]
  | .cld => [0xD8#8]
  | .cli => [0x58#8]
  | .clv => [0xB8#8]
  | .sec => [0x38#8]
  | .sed => [0xF8#8]
  | .sei => [0x78#8]
  | .brk => [0x00#8]
  | .rti => [0x40#8]
  | .nop => [0xEA#8]
  | .undocumented op => [op]

/-- Byte k of a number, byte 0 the least significant. -/
def byteOfNat (w k : Nat) : Byte := BitVec.ofNat 8 (w / 256 ^ k)

/-- The three bytes of a table word: the first byte is bits 7..0, the next bits 15..8; the bits above nbits
are zero. -/
def tableWordBytes (nbits w : Nat) : List Byte :=
  [byteOfNat (w % 2 ^ nbits) 0, byteOfNat (w % 2 ^ nbits) 1, byteOfNat (w % 2 ^ nbits) 2]

/-- The instruction the decoder reads from a word of the opcode table. -/
def decodeTableWord (nbits w : Nat) : Option Instr :=
  match decode (tableWordBytes nbits w) with
  | .ok (i, _) => some i
  | .error _ => none

end Sys2Proof
end

