-- ==== Sys2Proof/Config.lean ====
section
/-! DEFINITION. What an implementation of the core fixes: the constants and the open parameters of R7. -/

namespace Sys2Proof

/-- MEM_SIZE of R7 and R50: the number of bytes of the one address space. -/
def Config.memSize : Nat := 65536

/-- What a byte that nothing has written reads as (R51, R52). -/
def Config.unwrittenByte : Byte := 0x00#8

/-- RESET_PC_SOURCE of R7 (D9). -/
inductive ResetPcSource where
  /-- PC starts at a constant address. -/
  | constant (pc : Addr)
  /-- PC is read from the reset vector. -/
  | vector
deriving DecidableEq, Repr

/-- ILLEGAL_OPCODE_POLICY of R7 (D8). `placeholder` carries PLACEHOLDER_CYCLES, which R7 requires under
that policy only: a count of 0 to 255 for each opcode. -/
inductive IllegalOpcodePolicy where
  /-- The fetch of an undocumented opcode is refused (R186, the default). -/
  | refuse
  /-- An undocumented opcode is one byte long, does nothing and costs the given cycles (R186). -/
  | placeholder (cycles : Vector Byte 256)
deriving DecidableEq, Repr

/-- The open parameters of R7. R36: "not state of the core but parameters of its step". The model carries
them beside the state (log entry 1), so that a statement over all states is one over all their values. -/
structure Params where
  /-- RESET_PC_SOURCE -/
  resetPcSource : ResetPcSource
  /-- ILLEGAL_OPCODE_POLICY, with PLACEHOLDER_CYCLES -/
  illegalOpcodePolicy : IllegalOpcodePolicy
  /-- HAS_INTERRUPT_LINES -/
  hasInterruptLines : Bool
deriving DecidableEq, Repr

/-- The defaults of R7: `Constant(0x0000)`, `Refuse`, `false`. -/
def Params.default : Params :=
  { resetPcSource := .constant 0x0000#16, illegalOpcodePolicy := .refuse, hasInterruptLines := false }

end Sys2Proof
end

