-- ==== Sys2Proof/Machine/State.lean ====
section
/-! DEFINITION. The state of the core (R38), the reasons a step can stop, and the state at power-on (R220). -/

namespace Sys2Proof.Machine

/-- Memory as plain data: a list of (address, byte) in the canonical form of `Memory.wf`. -/
abbrev Memory := List Host.Cell

/-- The canonical form: addresses strictly rising and inside the address space (R50), and no entry equal to
what an unlisted address reads as (R51). -/
def Memory.wf : Memory → Bool
  | [] => true
  | [(k, v)] => decide (k < Config.memSize) && v != Config.unwrittenByte
  | (k, v) :: (k', v') :: m =>
    decide (k < k') && (v != Config.unwrittenByte) && Memory.wf ((k', v') :: m)

/-- The record of a refused opcode: `IllegalOpcode(op, at)` of R35 and R38. -/
structure IllegalOpcode where
  /-- the opcode byte that was fetched -/
  op : Byte
  /-- the address it was fetched from -/
  addr : Addr
deriving DecidableEq, Repr

/-- Why a step stops with a fault. The tick that fails its fetch records the fault in `State.fault`; every
later tick ends here (R192: "no later tick has a step"). -/
inductive Fault where
  /-- Raised by `step` in a state whose `fault` mark is set: the core was ticked without its bus connection,
  at the recorded PC (R192, R195 row 5). Safe: nothing can be proved of a later state. -/
  | unconnected (pc : Addr)
deriving DecidableEq, Repr

/-- Why the model has no step. -/
inductive Refusal where
  /-- Answered by `exec` alone, for an instruction the model gives no meaning yet (none is left). Safe. -/
  | notModelled (mnemonic : String)
  /-- Answered by `step` in a state whose `refused` mark is set: an undocumented opcode was fetched under the
  policy `Refuse` (R186: "no further tick has a step"). Safe: nothing can be proved of a later state. -/
  | illegalOpcode (op : Byte) (addr : Addr)
deriving DecidableEq, Repr

end Sys2Proof.Machine

namespace Sys2Proof.Machine

/-- The complete state: CoreState and Mem of R38, and the parameters of R7 (log entry 1). -/
structure State where
  /-- the accumulator (R21) -/
  a : Byte
  /-- index register X (R22) -/
  x : Byte
  /-- index register Y (R23) -/
  y : Byte
  /-- the stack pointer (R24) -/
  sp : Byte
  /-- the status register P, TGW's STATUS (R26) -/
  p : Byte
  /-- the program counter (R25) -/
  pc : Addr
  /-- the remaining-cycle counter: Idle iff 0 (R31, R32) -/
  cycles : Byte
  /-- scratch: the current opcode (R34) -/
  opcode : Byte
  /-- scratch: the fetched operand byte (R34) -/
  fetched : Byte
  /-- scratch: the resolved absolute address (R34) -/
  addrAbs : Addr
  /-- scratch: the resolved relative address (R34) -/
  addrRel : Addr
  /-- whether the CPU holds its bus connection (R33) -/
  connected : Bool
  /-- the sticky fault mark (R35, R192) -/
  fault : Option Fault
  /-- the sticky refusal mark (R35, R186) -/
  refused : Option IllegalOpcode
  /-- the level-sensitive IRQ line (R201) -/
  irqLine : Bool
  /-- the edge-sensitive NMI line (R201) -/
  nmiLine : Bool
  /-- an NMI edge not yet taken (R201) -/
  nmiPending : Bool
  /-- the one memory (R50) -/
  mem : Memory
  /-- the parameters of R7: the model's own field, written by no step (log entry 1) -/
  params : Params
deriving DecidableEq, Repr

/-- PC at power-on (R220): RESET_PC, or the vector of an all-zero memory, which is 0x0000. -/
def State.powerOnPc : ResetPcSource → Addr
  | .constant pc => pc
  | .vector => 0x0000#16

/-- The state a successful construction leaves (R220), for the given parameters. -/
def State.powerOn (params : Params) : State :=
  { a := 0x00#8, x := 0x00#8, y := 0x00#8, sp := 0x00#8, p := 0x20#8
    pc := State.powerOnPc params.resetPcSource
    cycles := 0x00#8, opcode := 0x00#8, fetched := 0x00#8, addrAbs := 0x0000#16, addrRel := 0x0000#16
    connected := true, fault := none, refused := none
    irqLine := false, nmiLine := false, nmiPending := false
    mem := [], params := params }

/-- The machine right after reset: power-on with the default parameters of R7 (R220). -/
def State.reset : State := State.powerOn Params.default

end Sys2Proof.Machine
end

