-- ==== Sys2Proof/Machine/Flags.lean ====
section
/-! DEFINITION. The status register: the flags of R26, the primitives of R30, and every flag computation. -/

namespace Sys2Proof.Machine

/-- The eight flags of P (R26). -/
inductive Flag where
  | c | z | i | d | b | u | v | n
deriving DecidableEq, Repr

/-- The bit position of a flag in P (R26). -/
def Flag.pos : Flag → Nat
  | .c => 0 | .z => 1 | .i => 2 | .d => 3 | .b => 4 | .u => 5 | .v => 6 | .n => 7

/-- The byte whose only 1 bit is the flag's. -/
def Flag.mask : Flag → Byte
  | .c => 0x01#8 | .z => 0x02#8 | .i => 0x04#8 | .d => 0x08#8
  | .b => 0x10#8 | .u => 0x20#8 | .v => 0x40#8 | .n => 0x80#8

/-- `GetFlag(f)` of R30 on a status byte. -/
def statusFlag (p : Byte) (f : Flag) : Bool := p.getLsbD f.pos

/-- `SetFlag(f, b)` of R30 on a status byte: bit f becomes b, the other seven bits stay. -/
def statusWith (p : Byte) (f : Flag) (b : Bool) : Byte :=
  if b then p ||| f.mask else p &&& ~~~ f.mask

/-- `GetFlag(f)` of R30. -/
def State.getFlag (s : State) (f : Flag) : Bool := statusFlag s.p f

/-- `SetFlag(f, b)` of R30. -/
def State.setFlag (s : State) (f : Flag) (b : Bool) : State := { s with p := statusWith s.p f b }

/-- `SetZN(v)` of R10. -/
def State.setZN (s : State) (v : Byte) : State :=
  (s.setFlag .z (v == 0x00#8)).setFlag .n (v.getLsbD 7)

/-- The exact sum t of ADC (R132): A + m + C, 0 .. 511. -/
def adcSum (a m : Byte) (carry : Bool) : Nat := a.toNat + m.toNat + carry.toNat

/-- r = t mod 256 (R132). -/
def adcResult (a m : Byte) (carry : Bool) : Byte := BitVec.ofNat 8 (adcSum a m carry)

/-- The carry of ADC: t > 0xFF (R132). -/
def adcCarry (a m : Byte) (carry : Bool) : Bool := decide (adcSum a m carry > 0xFF)

/-- The overflow of ADC: ((A ^ r) & (m ^ r) & 0x80) != 0 (R132). -/
def adcOverflow (a m : Byte) (carry : Bool) : Bool :=
  ((a ^^^ adcResult a m carry) &&& (m ^^^ adcResult a m carry) &&& 0x80#8) != 0x00#8

/-- The adder's effect: C, V, A, then Z and N (R132). SBC uses it with m ^ 0xFF (R133). -/
def State.addToA (s : State) (m : Byte) : State :=
  let carry := s.getFlag .c
  let r := adcResult s.a m carry
  let s1 := (s.setFlag .c (adcCarry s.a m carry)).setFlag .v (adcOverflow s.a m carry)
  { s1 with a := r }.setZN r

/-- `Compare(R, m)` of R134: C, Z, N; no register, V unchanged. -/
def State.compare (s : State) (r m : Byte) : State :=
  let d := r - m
  ((s.setFlag .c (decide (m.toNat ≤ r.toNat))).setFlag .z (r == m)).setFlag .n (d.getLsbD 7)

/-- The flags of BIT (R149): Z from A & m, V and N copied from bits 6 and 7 of m. -/
def State.bitTest (s : State) (m : Byte) : State :=
  ((s.setFlag .z ((s.a &&& m) == 0x00#8)).setFlag .v (m.getLsbD 6)).setFlag .n (m.getLsbD 7)

/-- The result of ASL: (m << 1) mod 256 (R150). -/
def aslResult (m : Byte) : Byte := m <<< 1

/-- The result of LSR: m >> 1 (R151). -/
def lsrResult (m : Byte) : Byte := m >>> 1

/-- The result of ROL: ((m << 1) | c_in) mod 256 (R152). -/
def rolResult (m : Byte) (carry : Bool) : Byte := (m <<< 1) ||| bit carry

/-- The result of ROR: (m >> 1) | (c_in << 7) (R153). -/
def rorResult (m : Byte) (carry : Bool) : Byte := (m >>> 1) ||| (bit carry <<< 7)

/-- The copy of P that PHP and BRK push: B and U forced to 1 (R29, R127, R183). -/
def pushedBySoftware (p : Byte) : Byte := p ||| 0x30#8

/-- The copy of P that an interrupt entry pushes: B = 0, U = 1 (R29, R202). -/
def pushedByInterrupt (p : Byte) : Byte := (p &&& 0xEF#8) ||| 0x20#8

/-- P as PLP and RTI load it from a pulled byte: B = 0, U = 1 (R29, R129, R184). -/
def pulledStatus (v : Byte) : Byte := (v &&& 0xCF#8) ||| 0x20#8

end Sys2Proof.Machine
end

