-- ==== Sys2Proof/Machine/Ops.lean ====
section
/-! DEFINITION. The named operations over memory, the stack and the program counter, and the one shared
entry to an exception (R183, R202) with the return beside it (R184). -/

namespace Sys2Proof.Machine

/-- What a step or a meaning answers. -/
abbrev Result := Host.Outcome State Fault Refusal

/-- The byte at an address: the last written value, or 0x00 (R51, R53). -/
def Memory.read : Memory → Nat → Byte
  | [], _ => Config.unwrittenByte
  | (k, v) :: m, a => if k = a then v else Memory.read m a

/-- Write one byte (R54), keeping the canonical form. -/
def Memory.write : Memory → Nat → Byte → Memory
  | [], a, v => if v = Config.unwrittenByte then [] else [(a, v)]
  | (k, w) :: m, a, v =>
    if a < k then (if v = Config.unwrittenByte then (k, w) :: m else (a, v) :: (k, w) :: m)
    else if a = k then (if v = Config.unwrittenByte then m else (a, v) :: m)
    else (k, w) :: Memory.write m a v

/-- `Mem[addr]` (R53, R57). -/
def State.read (s : State) (addr : Addr) : Byte := Memory.read s.mem addr.toNat

/-- `Mem[addr] <- v` (R54, R57): one byte changes and nothing else. -/
def State.write (s : State) (addr : Addr) (v : Byte) : State :=
  { s with mem := Memory.write s.mem addr.toNat v }

/-- The error results of the CPU's memory port (R190, R191, R195 rows 3 and 4). -/
inductive BusError where
  /-- a read with `connected = 0`; it records the address -/
  | invalidRead (addr : Addr)
  /-- a write with `connected = 0`; it records the address and the value -/
  | invalidWrite (addr : Addr) (v : Byte)
deriving DecidableEq, Repr

/-- `MemRead(addr, 1)` of R53. -/
def State.memRead (s : State) (addr : Addr) : Except BusError Byte :=
  if s.connected then .ok (s.read addr) else .error (.invalidRead addr)

/-- `MemWrite(addr, 1, v)` of R54. -/
def State.memWrite (s : State) (addr : Addr) (v : Byte) : Except BusError State :=
  if s.connected then .ok (s.write addr v) else .error (.invalidWrite addr v)

/-- A tick that needs the bus. Its first access decides (R192): with no connection nothing is written but the
sticky fault mark, which records the PC (R195 row 5); with one, `connected` cannot change inside the tick, so no
later access can fail, and the rest of the tick is the total function `body`. -/
def onBus (s : State) (body : State → State) : Result :=
  match s.memRead s.pc with
  | .error _ => .next { s with fault := some (.unconnected s.pc) }
  | .ok _ => .next (body s)

/-- `MemRead16(addr)` of R55: low byte first, second address modulo 65536. -/
def State.read16 (s : State) (addr : Addr) : Addr := joinBytes (s.read (addr + 1)) (s.read addr)

/-- A little-endian pointer whose two bytes lie in one page: the second address wraps inside it. Page 0 for
the pointers of R85 and R86, the operand's page for R84. -/
def State.readInPage (s : State) (page lo : Byte) : Addr :=
  joinBytes (s.read (joinBytes page (lo + 1))) (s.read (joinBytes page lo))

/-- The stack address of a stack pointer: 0x0100 + SP (R24, R60). -/
def stackAddr (sp : Byte) : Addr := 0x0100#16 + zext16 sp

/-- `Push(v)` of R60. -/
def State.push (s : State) (v : Byte) : State :=
  { s.write (stackAddr s.sp) v with sp := s.sp - 1 }

/-- The byte `Pull()` returns (R61). -/
def State.pulled (s : State) : Byte := s.read (stackAddr (s.sp + 1))

/-- The state `Pull()` leaves (R61). -/
def State.pop (s : State) : State := { s with sp := s.sp + 1 }

/-- Push a 16-bit value, high byte first (R55, R161, R183). -/
def State.push16 (s : State) (v : Addr) : State := (s.push (hiByte v)).push (loByte v)

/-- The 16-bit value the next two pulls return, low byte first (R162, R184). -/
def State.pulled16 (s : State) : Addr := joinBytes s.pop.pulled s.pulled

/-- The state two pulls leave. -/
def State.pop16 (s : State) : State := s.pop.pop

/-- The IRQ and BRK vector (R63, R203). -/
def irqVector : Addr := 0xFFFE#16

/-- The NMI vector (R63, R203). -/
def nmiVector : Addr := 0xFFFA#16

/-- The reset vector (R63, R203). -/
def resetVector : Addr := 0xFFFC#16

/-- TAKING AN EXCEPTION, shared by BRK (R183, R196) and the interrupt entry (R202): PC is pushed, high byte
first, then the given copy of P; I is set; PC is read from the vector. -/
def State.enterException (s : State) (pushedP : Byte) (vector : Addr) : State :=
  let s1 := ((s.push16 s.pc).push pushedP).setFlag .i true
  { s1 with pc := s1.read16 vector }

/-- RETURNING FROM ONE (R184, R197): P is pulled with B = 0 and U = 1, then PC, low byte first. -/
def State.returnFromException (s : State) : State :=
  let s1 := { s.pop with p := pulledStatus s.pulled }
  { s1.pop16 with pc := s1.pulled16 }

end Sys2Proof.Machine
end

