-- ==== Sys2Proof/Machine/Operands.lean ====
section
/-! DEFINITION. The addressing-mode resolver: the thirteen modes (R73), the operand read (R90) and the
write-back (R91). -/

namespace Sys2Proof.Machine

/-- An operand form: one of the thirteen modes of R73 with its assembled operand (R71). -/
inductive Operand where
  /-- Implied (R75) -/
  | imp
  /-- Accumulator (R76) -/
  | acc
  /-- Immediate (R77) -/
  | imm (v : Byte)
  /-- Zero page (R78) -/
  | zp0 (zp : Byte)
  /-- Zero page,X (R79) -/
  | zpx (zp : Byte)
  /-- Zero page,Y (R80) -/
  | zpy (zp : Byte)
  /-- Absolute (R81) -/
  | abs (addr : Addr)
  /-- Absolute,X (R82) -/
  | abx (base : Addr)
  /-- Absolute,Y (R83) -/
  | aby (base : Addr)
  /-- Indirect (R84) -/
  | ind (ptr : Addr)
  /-- (Indirect,X) (R85) -/
  | izx (zp : Byte)
  /-- (Indirect),Y (R86) -/
  | izy (zp : Byte)
  /-- Relative (R88) -/
  | rel (disp : Byte)
deriving DecidableEq, Repr

/-- The thirteen addressing modes, by R73's codes. -/
inductive Mode where
  | imp | acc | imm | zp0 | zpx | zpy | abs | abx | aby | ind | izx | izy | rel
deriving DecidableEq, Repr

/-- The mode of an operand form (R73). -/
def Operand.mode : Operand → Mode
  | .imp => .imp | .acc => .acc | .imm _ => .imm | .zp0 _ => .zp0 | .zpx _ => .zpx | .zpy _ => .zpy
  | .abs _ => .abs | .abx _ => .abx | .aby _ => .aby | .ind _ => .ind | .izx _ => .izx | .izy _ => .izy
  | .rel _ => .rel

/-- The operand bytes a mode consumes (R73, R89). -/
def Operand.bytes : Operand → Addr
  | .imp | .acc => 0
  | .imm _ | .zp0 _ | .zpx _ | .zpy _ | .izx _ | .izy _ | .rel _ => 1
  | .abs _ | .abx _ | .aby _ | .ind _ => 2

/-- The address the base of an indexed 16-bit form holds before indexing (R82, R83, R86); for the other forms
the address itself. `s` is the state at resolver entry: its PC is the address of the first operand byte. -/
def Operand.base (s : State) : Operand → Addr
  | .imp | .acc | .rel _ => s.addrAbs
  | .imm _ => s.pc
  | .zp0 zp => zext16 zp
  | .zpx zp => zext16 (zp + s.x)
  | .zpy zp => zext16 (zp + s.y)
  | .abs a => a
  | .abx a => a
  | .aby a => a
  | .ind p => s.readInPage (hiByte p) (loByte p)
  | .izx zp => s.readInPage 0x00#8 (zp + s.x)
  | .izy zp => s.readInPage 0x00#8 zp

/-- The address a mode leaves in `addr_abs` (R77 to R86), from the state at resolver entry; a mode that writes
no address leaves the field as it is (R75, R76, R88). -/
def Operand.address (s : State) (m : Operand) : Addr :=
  match m with
  | .abx _ => m.base s + zext16 s.x
  | .aby _ | .izy _ => m.base s + zext16 s.y
  | _ => m.base s

/-- `e_mode` of a mode (R73, R74): the page cross of Absolute,X, Absolute,Y and (Indirect),Y. -/
def Operand.extraCycle (s : State) (m : Operand) : Bool :=
  match m with
  | .abx _ | .aby _ | .izy _ => pageCross (m.address s) (m.base s)
  | _ => false

/-- The resolver of a mode (R74 to R89): it writes PC and the scratch fields only. -/
def Operand.resolve (s : State) (m : Operand) : State :=
  match m with
  | .imp | .acc => { s with fetched := s.a }
  | .rel d => { s with addrRel := sext16 d, pc := s.pc + m.bytes }
  | _ => { s with addrAbs := m.address s, pc := s.pc + m.bytes }

/-- The byte `FetchOperand()` returns (R90), in a resolved state. For Immediate it is the operand byte itself
(R71), which is the byte at `addr_abs` (log entry 4). -/
def Operand.value (s : State) : Operand → Byte
  | .imp | .acc => s.fetched
  | .imm v => v
  | _ => s.read s.addrAbs

/-- `FetchOperand()` of R90: the state it leaves; the byte is then in `fetched`. -/
def Operand.fetch (s : State) (m : Operand) : State := { s with fetched := m.value s }

/-- `WriteBack(v)` of R91. -/
def Operand.writeBack (s : State) (m : Operand) (v : Byte) : State :=
  match m with
  | .acc => { s with a := v }
  | _ => s.write s.addrAbs v

end Sys2Proof.Machine
end

