-- ==== Sys2Proof/Machine/Clock.lean ====
section
/-! DEFINITION. The clock: the fetch tick's frame around an operation (R95, R96), the count down (R97) and the
interrupt entry (R202, R204). -/

namespace Sys2Proof.Machine

/-- An instruction operation (R92, R94): it runs after the resolver of its mode and answers the state it leaves
and its extra-cycle report `e_op`. -/
abbrev Operation := Operand → State → State × Bool

/-- The head of a fetch tick (R95): the opcode is latched, PC moves past it, the counter is set to the
descriptor's base count. -/
def State.startFetch (s : State) (opcode base : Byte) : State :=
  { s with opcode := opcode, pc := s.pc + 1, cycles := base }

/-- Add extra cycles to the counter (R96, R163). -/
def State.addCycles (s : State) (k : Byte) : State := { s with cycles := s.cycles + k }

/-- Resolve, execute, and charge the extra cycle when both report it (R95, R96). -/
def runOperation (m : Operand) (op : Operation) (s : State) : State :=
  let r := op m (m.resolve s)
  r.1.addCycles (bit (m.extraCycle s && r.2))

/-- The fetch tick of a documented instruction up to the decrement (R95), in a state whose PC is the address
of its opcode. -/
def fetchTick (opcode base : Byte) (m : Operand) (op : Operation) (s : State) : Result :=
  onBus s fun s => runOperation m op (s.startFetch opcode base)

/-- The decrement of every tick, never below 0 (R97). -/
def State.countDown (s : State) : State :=
  if s.cycles = 0 then s else { s with cycles := s.cycles - 1 }

/-- The decrement that ends a tick which answered a next state. -/
def endTick : Result → Result
  | .next s => .next s.countDown
  | .fault f => .fault f
  | .refused r => .refused r

/-- The interrupt to take at an Idle tick, as its vector (R204): a pending NMI first, then the IRQ line unless
masked by I; none without interrupt lines (R200). -/
def pendingInterrupt (s : State) : Option Addr :=
  if s.params.hasInterruptLines then
    if s.nmiPending then some nmiVector
    else if s.irqLine && !s.getFlag .i then some irqVector
    else none
  else none

/-- `InterruptEntry(vector)` of R202. -/
def interruptEntry (vector : Addr) (s : State) : State :=
  let s1 := s.enterException (pushedByInterrupt s.p) vector
  { s1 with nmiPending := if vector = nmiVector then false else s1.nmiPending, cycles := 7 }

/-- The fetch of an undocumented opcode at PC (R186), up to the decrement: under `Refuse` every write of the
tick is discarded and the refusal is marked; under `Placeholder` PC passes the one byte, the opcode is latched
and the counter is set. -/
def undocumentedFetch (op : Byte) (s : State) : State :=
  match s.params.illegalOpcodePolicy with
  | .refuse => { s with refused := some ⟨op, s.pc⟩ }
  | .placeholder cycles => s.startFetch op (cycles.get op.toFin)

end Sys2Proof.Machine
end

