-- ==== Sys2Proof/Machine/Arithmetic.lean ====
section
/-! DEFINITION. Arithmetic, compare, increment and decrement (spec/43_arithmetic.md, R130 to R143). -/

namespace Sys2Proof.Machine

/-! The operations, once each. -/

/-- ADC (R132), binary whatever D holds (R131). -/
def opAdc : Operation := fun m s =>
  let s1 := m.fetch s
  (s1.addToA s1.fetched, true)

/-- SBC (R133): the adder on n = m ^ 0xFF. -/
def opSbc : Operation := fun m s =>
  let s1 := m.fetch s
  (s1.addToA (s1.fetched ^^^ 0xFF#8), true)

/-- CMP (R135). -/
def opCmp : Operation := fun m s =>
  let s1 := m.fetch s
  (s1.compare s1.a s1.fetched, true)

/-- CPX (R136). -/
def opCpx : Operation := fun m s =>
  let s1 := m.fetch s
  (s1.compare s1.x s1.fetched, false)

/-- CPY (R137). -/
def opCpy : Operation := fun m s =>
  let s1 := m.fetch s
  (s1.compare s1.y s1.fetched, false)

/-- INC (R138), read-modify-write. -/
def opInc : Operation := fun m s =>
  let s1 := m.fetch s
  let v := s1.fetched + 1
  ((m.writeBack s1 v).setZN v, false)

/-- DEC (R139), read-modify-write. -/
def opDec : Operation := fun m s =>
  let s1 := m.fetch s
  let v := s1.fetched - 1
  ((m.writeBack s1 v).setZN v, false)

/-- INX (R140). -/
def opInx : Operation := fun _ s => ({ s with x := s.x + 1 }.setZN (s.x + 1), false)

/-- INY (R141). -/
def opIny : Operation := fun _ s => ({ s with y := s.y + 1 }.setZN (s.y + 1), false)

/-- DEX (R142). -/
def opDex : Operation := fun _ s => ({ s with x := s.x - 1 }.setZN (s.x - 1), false)

/-- DEY (R143). -/
def opDey : Operation := fun _ s => ({ s with y := s.y - 1 }.setZN (s.y - 1), false)

/-! The instructions: one meaning for each row of the opcode table, its opcode, base cycles, mode and operation. -/

/-- ADC #imm: 69, 2 cycles (R132). -/
def execAdcImm (imm : Byte) (s : State) : Result := fetchTick 0x69#8 2 (.imm imm) opAdc s

/-- ADC zp: 65, 3 cycles (R132). -/
def execAdcZp0 (zp : Byte) (s : State) : Result := fetchTick 0x65#8 3 (.zp0 zp) opAdc s

/-- ADC zp,X: 75, 4 cycles (R132). -/
def execAdcZpx (zp : Byte) (s : State) : Result := fetchTick 0x75#8 4 (.zpx zp) opAdc s

/-- ADC addr: 6D, 4 cycles (R132). -/
def execAdcAbs (addr : Addr) (s : State) : Result := fetchTick 0x6D#8 4 (.abs addr) opAdc s

/-- ADC base,X: 7D, 4 cycles (R132). -/
def execAdcAbx (base : Addr) (s : State) : Result := fetchTick 0x7D#8 4 (.abx base) opAdc s

/-- ADC base,Y: 79, 4 cycles (R132). -/
def execAdcAby (base : Addr) (s : State) : Result := fetchTick 0x79#8 4 (.aby base) opAdc s

/-- ADC (zp,X): 61, 6 cycles (R132). -/
def execAdcIzx (zp : Byte) (s : State) : Result := fetchTick 0x61#8 6 (.izx zp) opAdc s

/-- ADC (zp),Y: 71, 5 cycles (R132). -/
def execAdcIzy (zp : Byte) (s : State) : Result := fetchTick 0x71#8 5 (.izy zp) opAdc s

/-- SBC #imm: E9, 2 cycles (R133). -/
def execSbcImm (imm : Byte) (s : State) : Result := fetchTick 0xE9#8 2 (.imm imm) opSbc s

/-- SBC zp: E5, 3 cycles (R133). -/
def execSbcZp0 (zp : Byte) (s : State) : Result := fetchTick 0xE5#8 3 (.zp0 zp) opSbc s

/-- SBC zp,X: F5, 4 cycles (R133). -/
def execSbcZpx (zp : Byte) (s : State) : Result := fetchTick 0xF5#8 4 (.zpx zp) opSbc s

/-- SBC addr: ED, 4 cycles (R133). -/
def execSbcAbs (addr : Addr) (s : State) : Result := fetchTick 0xED#8 4 (.abs addr) opSbc s

/-- SBC base,X: FD, 4 cycles (R133). -/
def execSbcAbx (base : Addr) (s : State) : Result := fetchTick 0xFD#8 4 (.abx base) opSbc s

/-- SBC base,Y: F9, 4 cycles (R133). -/
def execSbcAby (base : Addr) (s : State) : Result := fetchTick 0xF9#8 4 (.aby base) opSbc s

/-- SBC (zp,X): E1, 6 cycles (R133). -/
def execSbcIzx (zp : Byte) (s : State) : Result := fetchTick 0xE1#8 6 (.izx zp) opSbc s

/-- SBC (zp),Y: F1, 5 cycles (R133). -/
def execSbcIzy (zp : Byte) (s : State) : Result := fetchTick 0xF1#8 5 (.izy zp) opSbc s

/-- CMP #imm: C9, 2 cycles (R135). -/
def execCmpImm (imm : Byte) (s : State) : Result := fetchTick 0xC9#8 2 (.imm imm) opCmp s

/-- CMP zp: C5, 3 cycles (R135). -/
def execCmpZp0 (zp : Byte) (s : State) : Result := fetchTick 0xC5#8 3 (.zp0 zp) opCmp s

/-- CMP zp,X: D5, 4 cycles (R135). -/
def execCmpZpx (zp : Byte) (s : State) : Result := fetchTick 0xD5#8 4 (.zpx zp) opCmp s

/-- CMP addr: CD, 4 cycles (R135). -/
def execCmpAbs (addr : Addr) (s : State) : Result := fetchTick 0xCD#8 4 (.abs addr) opCmp s

/-- CMP base,X: DD, 4 cycles (R135). -/
def execCmpAbx (base : Addr) (s : State) : Result := fetchTick 0xDD#8 4 (.abx base) opCmp s

/-- CMP base,Y: D9, 4 cycles (R135). -/
def execCmpAby (base : Addr) (s : State) : Result := fetchTick 0xD9#8 4 (.aby base) opCmp s

/-- CMP (zp,X): C1, 6 cycles (R135). -/
def execCmpIzx (zp : Byte) (s : State) : Result := fetchTick 0xC1#8 6 (.izx zp) opCmp s

/-- CMP (zp),Y: D1, 5 cycles (R135). -/
def execCmpIzy (zp : Byte) (s : State) : Result := fetchTick 0xD1#8 5 (.izy zp) opCmp s

/-- CPX #imm: E0, 2 cycles (R136). -/
def execCpxImm (imm : Byte) (s : State) : Result := fetchTick 0xE0#8 2 (.imm imm) opCpx s

/-- CPX zp: E4, 3 cycles (R136). -/
def execCpxZp0 (zp : Byte) (s : State) : Result := fetchTick 0xE4#8 3 (.zp0 zp) opCpx s

/-- CPX addr: EC, 4 cycles (R136). -/
def execCpxAbs (addr : Addr) (s : State) : Result := fetchTick 0xEC#8 4 (.abs addr) opCpx s

/-- CPY #imm: C0, 2 cycles (R137). -/
def execCpyImm (imm : Byte) (s : State) : Result := fetchTick 0xC0#8 2 (.imm imm) opCpy s

/-- CPY zp: C4, 3 cycles (R137). -/
def execCpyZp0 (zp : Byte) (s : State) : Result := fetchTick 0xC4#8 3 (.zp0 zp) opCpy s

/-- CPY addr: CC, 4 cycles (R137). -/
def execCpyAbs (addr : Addr) (s : State) : Result := fetchTick 0xCC#8 4 (.abs addr) opCpy s

/-- INC zp: E6, 5 cycles (R138). -/
def execIncZp0 (zp : Byte) (s : State) : Result := fetchTick 0xE6#8 5 (.zp0 zp) opInc s

/-- INC zp,X: F6, 6 cycles (R138). -/
def execIncZpx (zp : Byte) (s : State) : Result := fetchTick 0xF6#8 6 (.zpx zp) opInc s

/-- INC addr: EE, 6 cycles (R138). -/
def execIncAbs (addr : Addr) (s : State) : Result := fetchTick 0xEE#8 6 (.abs addr) opInc s

/-- INC base,X: FE, 7 cycles (R138). -/
def execIncAbx (base : Addr) (s : State) : Result := fetchTick 0xFE#8 7 (.abx base) opInc s

/-- DEC zp: C6, 5 cycles (R139). -/
def execDecZp0 (zp : Byte) (s : State) : Result := fetchTick 0xC6#8 5 (.zp0 zp) opDec s

/-- DEC zp,X: D6, 6 cycles (R139). -/
def execDecZpx (zp : Byte) (s : State) : Result := fetchTick 0xD6#8 6 (.zpx zp) opDec s

/-- DEC addr: CE, 6 cycles (R139). -/
def execDecAbs (addr : Addr) (s : State) : Result := fetchTick 0xCE#8 6 (.abs addr) opDec s

/-- DEC base,X: DE, 7 cycles (R139). -/
def execDecAbx (base : Addr) (s : State) : Result := fetchTick 0xDE#8 7 (.abx base) opDec s

/-- INX: E8, 2 cycles (R140). -/
def execInx (s : State) : Result := fetchTick 0xE8#8 2 .imp opInx s

/-- INY: C8, 2 cycles (R141). -/
def execIny (s : State) : Result := fetchTick 0xC8#8 2 .imp opIny s

/-- DEX: CA, 2 cycles (R142). -/
def execDex (s : State) : Result := fetchTick 0xCA#8 2 .imp opDex s

/-- DEY: 88, 2 cycles (R143). -/
def execDey (s : State) : Result := fetchTick 0x88#8 2 .imp opDey s

end Sys2Proof.Machine
end

