-- ==== Sys2Proof/Machine/Control.lean ====
section
/-! DEFINITION. Jumps, subroutine calls and branches (spec/45_control_flow.md, R160 to R172). -/

namespace Sys2Proof.Machine

/-! The operations, once each. -/

/-- JSR (R161): the address of its own last byte is pushed, high byte first. -/
def opJsr : Operation := fun _ s => ({ s.push16 (s.pc - 1) with pc := s.addrAbs }, false)

/-- RTS (R162): the pulled address plus 1. -/
def opRts : Operation := fun _ s => ({ s.pop16 with pc := s.pulled16 + 1 }, false)

/-- The target of a branch, relative to PC after it (R163). -/
def branchTarget (s : State) : Addr := s.pc + s.addrRel

/-- `Branch(cond)` of R163: +1 cycle when taken, +1 more to another page, added to the counter directly. -/
def branch (cond : Bool) (s : State) : State × Bool :=
  if cond then
    ({ s.addCycles (1 + bit (pageCross (branchTarget s) s.pc)) with pc := branchTarget s }, false)
  else (s, false)

/-- BCC (R164). -/
def opBcc : Operation := fun _ s => branch (!s.getFlag .c) s

/-- BCS (R165). -/
def opBcs : Operation := fun _ s => branch (s.getFlag .c) s

/-- BEQ (R166). -/
def opBeq : Operation := fun _ s => branch (s.getFlag .z) s

/-- BMI (R167). -/
def opBmi : Operation := fun _ s => branch (s.getFlag .n) s

/-- BNE (R168). -/
def opBne : Operation := fun _ s => branch (!s.getFlag .z) s

/-- BPL (R169). -/
def opBpl : Operation := fun _ s => branch (!s.getFlag .n) s

/-- BVC (R170). -/
def opBvc : Operation := fun _ s => branch (!s.getFlag .v) s

/-- BVS (R171). -/
def opBvs : Operation := fun _ s => branch (s.getFlag .v) s

/-- JMP (R172). -/
def opJmp : Operation := fun _ s => ({ s with pc := s.addrAbs }, false)

/-! The instructions: one meaning for each row of the opcode table, its opcode, base cycles, mode and operation. -/

/-- JSR addr: 20, 6 cycles (R161). -/
def execJsr (addr : Addr) (s : State) : Result := fetchTick 0x20#8 6 (.abs addr) opJsr s

/-- RTS: 60, 6 cycles (R162). -/
def execRts (s : State) : Result := fetchTick 0x60#8 6 .imp opRts s

/-- BCC disp: 90, 2 cycles (R164). -/
def execBcc (disp : Byte) (s : State) : Result := fetchTick 0x90#8 2 (.rel disp) opBcc s

/-- BCS disp: B0, 2 cycles (R165). -/
def execBcs (disp : Byte) (s : State) : Result := fetchTick 0xB0#8 2 (.rel disp) opBcs s

/-- BEQ disp: F0, 2 cycles (R166). -/
def execBeq (disp : Byte) (s : State) : Result := fetchTick 0xF0#8 2 (.rel disp) opBeq s

/-- BMI disp: 30, 2 cycles (R167). -/
def execBmi (disp : Byte) (s : State) : Result := fetchTick 0x30#8 2 (.rel disp) opBmi s

/-- BNE disp: D0, 2 cycles (R168). -/
def execBne (disp : Byte) (s : State) : Result := fetchTick 0xD0#8 2 (.rel disp) opBne s

/-- BPL disp: 10, 2 cycles (R169). -/
def execBpl (disp : Byte) (s : State) : Result := fetchTick 0x10#8 2 (.rel disp) opBpl s

/-- BVC disp: 50, 2 cycles (R170). -/
def execBvc (disp : Byte) (s : State) : Result := fetchTick 0x50#8 2 (.rel disp) opBvc s

/-- BVS disp: 70, 2 cycles (R171). -/
def execBvs (disp : Byte) (s : State) : Result := fetchTick 0x70#8 2 (.rel disp) opBvs s

/-- JMP addr: 4C, 3 cycles (R172). -/
def execJmpAbs (addr : Addr) (s : State) : Result := fetchTick 0x4C#8 3 (.abs addr) opJmp s

/-- JMP (ptr): 6C, 5 cycles (R172). -/
def execJmpInd (ptr : Addr) (s : State) : Result := fetchTick 0x6C#8 5 (.ind ptr) opJmp s

end Sys2Proof.Machine
end

