-- ==== Sys2Proof/Machine/LoadStore.lean ====
section
/-! DEFINITION. Loads, stores and register transfers (spec/41_load_store_transfer.md, R110 to R122). -/

namespace Sys2Proof.Machine

/-! The operations, once each. -/

/-- LDA (R111). -/
def opLda : Operation := fun m s =>
  let s1 := m.fetch s
  ({ s1 with a := s1.fetched }.setZN s1.fetched, true)

/-- LDX (R112). -/
def opLdx : Operation := fun m s =>
  let s1 := m.fetch s
  ({ s1 with x := s1.fetched }.setZN s1.fetched, true)

/-- LDY (R113). -/
def opLdy : Operation := fun m s =>
  let s1 := m.fetch s
  ({ s1 with y := s1.fetched }.setZN s1.fetched, true)

/-- STA (R114). -/
def opSta : Operation := fun _ s => (s.write s.addrAbs s.a, false)

/-- STX (R115). -/
def opStx : Operation := fun _ s => (s.write s.addrAbs s.x, false)

/-- STY (R116). -/
def opSty : Operation := fun _ s => (s.write s.addrAbs s.y, false)

/-- TAX (R117). -/
def opTax : Operation := fun _ s => ({ s with x := s.a }.setZN s.a, false)

/-- TAY (R118). -/
def opTay : Operation := fun _ s => ({ s with y := s.a }.setZN s.a, false)

/-- TXA (R119). -/
def opTxa : Operation := fun _ s => ({ s with a := s.x }.setZN s.x, false)

/-- TYA (R120). -/
def opTya : Operation := fun _ s => ({ s with a := s.y }.setZN s.y, false)

/-- TSX (R121). -/
def opTsx : Operation := fun _ s => ({ s with x := s.sp }.setZN s.sp, false)

/-- TXS (R122): the only transfer that writes no flag. -/
def opTxs : Operation := fun _ s => ({ s with sp := s.x }, false)

/-! The instructions: one meaning for each row of the opcode table, its opcode, base cycles, mode and operation. -/

/-- LDA #imm: A9, 2 cycles (R111). -/
def execLdaImm (imm : Byte) (s : State) : Result := fetchTick 0xA9#8 2 (.imm imm) opLda s

/-- LDA zp: A5, 3 cycles (R111). -/
def execLdaZp0 (zp : Byte) (s : State) : Result := fetchTick 0xA5#8 3 (.zp0 zp) opLda s

/-- LDA zp,X: B5, 4 cycles (R111). -/
def execLdaZpx (zp : Byte) (s : State) : Result := fetchTick 0xB5#8 4 (.zpx zp) opLda s

/-- LDA addr: AD, 4 cycles (R111). -/
def execLdaAbs (addr : Addr) (s : State) : Result := fetchTick 0xAD#8 4 (.abs addr) opLda s

/-- LDA base,X: BD, 4 cycles (R111). -/
def execLdaAbx (base : Addr) (s : State) : Result := fetchTick 0xBD#8 4 (.abx base) opLda s

/-- LDA base,Y: B9, 4 cycles (R111). -/
def execLdaAby (base : Addr) (s : State) : Result := fetchTick 0xB9#8 4 (.aby base) opLda s

/-- LDA (zp,X): A1, 6 cycles (R111). -/
def execLdaIzx (zp : Byte) (s : State) : Result := fetchTick 0xA1#8 6 (.izx zp) opLda s

/-- LDA (zp),Y: B1, 5 cycles (R111). -/
def execLdaIzy (zp : Byte) (s : State) : Result := fetchTick 0xB1#8 5 (.izy zp) opLda s

/-- LDX #imm: A2, 2 cycles (R112). -/
def execLdxImm (imm : Byte) (s : State) : Result := fetchTick 0xA2#8 2 (.imm imm) opLdx s

/-- LDX zp: A6, 3 cycles (R112). -/
def execLdxZp0 (zp : Byte) (s : State) : Result := fetchTick 0xA6#8 3 (.zp0 zp) opLdx s

/-- LDX zp,Y: B6, 4 cycles (R112). -/
def execLdxZpy (zp : Byte) (s : State) : Result := fetchTick 0xB6#8 4 (.zpy zp) opLdx s

/-- LDX addr: AE, 4 cycles (R112). -/
def execLdxAbs (addr : Addr) (s : State) : Result := fetchTick 0xAE#8 4 (.abs addr) opLdx s

/-- LDX base,Y: BE, 4 cycles (R112). -/
def execLdxAby (base : Addr) (s : State) : Result := fetchTick 0xBE#8 4 (.aby base) opLdx s

/-- LDY #imm: A0, 2 cycles (R113). -/
def execLdyImm (imm : Byte) (s : State) : Result := fetchTick 0xA0#8 2 (.imm imm) opLdy s

/-- LDY zp: A4, 3 cycles (R113). -/
def execLdyZp0 (zp : Byte) (s : State) : Result := fetchTick 0xA4#8 3 (.zp0 zp) opLdy s

/-- LDY zp,X: B4, 4 cycles (R113). -/
def execLdyZpx (zp : Byte) (s : State) : Result := fetchTick 0xB4#8 4 (.zpx zp) opLdy s

/-- LDY addr: AC, 4 cycles (R113). -/
def execLdyAbs (addr : Addr) (s : State) : Result := fetchTick 0xAC#8 4 (.abs addr) opLdy s

/-- LDY base,X: BC, 4 cycles (R113). -/
def execLdyAbx (base : Addr) (s : State) : Result := fetchTick 0xBC#8 4 (.abx base) opLdy s

/-- STA zp: 85, 3 cycles (R114). -/
def execStaZp0 (zp : Byte) (s : State) : Result := fetchTick 0x85#8 3 (.zp0 zp) opSta s

/-- STA zp,X: 95, 4 cycles (R114). -/
def execStaZpx (zp : Byte) (s : State) : Result := fetchTick 0x95#8 4 (.zpx zp) opSta s

/-- STA addr: 8D, 4 cycles (R114). -/
def execStaAbs (addr : Addr) (s : State) : Result := fetchTick 0x8D#8 4 (.abs addr) opSta s

/-- STA base,X: 9D, 5 cycles (R114). -/
def execStaAbx (base : Addr) (s : State) : Result := fetchTick 0x9D#8 5 (.abx base) opSta s

/-- STA base,Y: 99, 5 cycles (R114). -/
def execStaAby (base : Addr) (s : State) : Result := fetchTick 0x99#8 5 (.aby base) opSta s

/-- STA (zp,X): 81, 6 cycles (R114). -/
def execStaIzx (zp : Byte) (s : State) : Result := fetchTick 0x81#8 6 (.izx zp) opSta s

/-- STA (zp),Y: 91, 6 cycles (R114). -/
def execStaIzy (zp : Byte) (s : State) : Result := fetchTick 0x91#8 6 (.izy zp) opSta s

/-- STX zp: 86, 3 cycles (R115). -/
def execStxZp0 (zp : Byte) (s : State) : Result := fetchTick 0x86#8 3 (.zp0 zp) opStx s

/-- STX zp,Y: 96, 4 cycles (R115). -/
def execStxZpy (zp : Byte) (s : State) : Result := fetchTick 0x96#8 4 (.zpy zp) opStx s

/-- STX addr: 8E, 4 cycles (R115). -/
def execStxAbs (addr : Addr) (s : State) : Result := fetchTick 0x8E#8 4 (.abs addr) opStx s

/-- STY zp: 84, 3 cycles (R116). -/
def execStyZp0 (zp : Byte) (s : State) : Result := fetchTick 0x84#8 3 (.zp0 zp) opSty s

/-- STY zp,X: 94, 4 cycles (R116). -/
def execStyZpx (zp : Byte) (s : State) : Result := fetchTick 0x94#8 4 (.zpx zp) opSty s

/-- STY addr: 8C, 4 cycles (R116). -/
def execStyAbs (addr : Addr) (s : State) : Result := fetchTick 0x8C#8 4 (.abs addr) opSty s

/-- TAX: AA, 2 cycles (R117). -/
def execTax (s : State) : Result := fetchTick 0xAA#8 2 .imp opTax s

/-- TAY: A8, 2 cycles (R118). -/
def execTay (s : State) : Result := fetchTick 0xA8#8 2 .imp opTay s

/-- TXA: 8A, 2 cycles (R119). -/
def execTxa (s : State) : Result := fetchTick 0x8A#8 2 .imp opTxa s

/-- TYA: 98, 2 cycles (R120). -/
def execTya (s : State) : Result := fetchTick 0x98#8 2 .imp opTya s

/-- TSX: BA, 2 cycles (R121). -/
def execTsx (s : State) : Result := fetchTick 0xBA#8 2 .imp opTsx s

/-- TXS: 9A, 2 cycles (R122). -/
def execTxs (s : State) : Result := fetchTick 0x9A#8 2 .imp opTxs s

end Sys2Proof.Machine
end

