-- ==== Sys2Proof/Machine/Logic.lean ====
section
/-! DEFINITION. Logical, bit-test, shift and rotate instructions (spec/44_logic_shift.md, R145 to R153). -/

namespace Sys2Proof.Machine

/-! The operations, once each. -/

/-- AND (R146). -/
def opAnd : Operation := fun m s =>
  let s1 := m.fetch s
  let v := s1.a &&& s1.fetched
  ({ s1 with a := v }.setZN v, true)

/-- EOR (R147). -/
def opEor : Operation := fun m s =>
  let s1 := m.fetch s
  let v := s1.a ^^^ s1.fetched
  ({ s1 with a := v }.setZN v, true)

/-- ORA (R148). -/
def opOra : Operation := fun m s =>
  let s1 := m.fetch s
  let v := s1.a ||| s1.fetched
  ({ s1 with a := v }.setZN v, true)

/-- BIT (R149). -/
def opBit : Operation := fun m s =>
  let s1 := m.fetch s
  (s1.bitTest s1.fetched, false)

/-- The shared body of the shifts and rotates (R145, R150 to R153): C from the given bit of the operand, the
result written back, Z and N from it. -/
def shiftWith (carryBit : Nat) (result : Byte → Bool → Byte) : Operation := fun m s =>
  let s1 := m.fetch s
  let v := result s1.fetched (s1.getFlag .c)
  ((m.writeBack (s1.setFlag .c (s1.fetched.getLsbD carryBit)) v).setZN v, false)

/-- ASL (R150). -/
def opAsl : Operation := shiftWith 7 fun m _ => aslResult m

/-- LSR (R151). -/
def opLsr : Operation := shiftWith 0 fun m _ => lsrResult m

/-- ROL (R152). -/
def opRol : Operation := shiftWith 7 rolResult

/-- ROR (R153). -/
def opRor : Operation := shiftWith 0 rorResult

/-! The instructions: one meaning for each row of the opcode table, its opcode, base cycles, mode and operation. -/

/-- AND #imm: 29, 2 cycles (R146). -/
def execAndImm (imm : Byte) (s : State) : Result := fetchTick 0x29#8 2 (.imm imm) opAnd s

/-- AND zp: 25, 3 cycles (R146). -/
def execAndZp0 (zp : Byte) (s : State) : Result := fetchTick 0x25#8 3 (.zp0 zp) opAnd s

/-- AND zp,X: 35, 4 cycles (R146). -/
def execAndZpx (zp : Byte) (s : State) : Result := fetchTick 0x35#8 4 (.zpx zp) opAnd s

/-- AND addr: 2D, 4 cycles (R146). -/
def execAndAbs (addr : Addr) (s : State) : Result := fetchTick 0x2D#8 4 (.abs addr) opAnd s

/-- AND base,X: 3D, 4 cycles (R146). -/
def execAndAbx (base : Addr) (s : State) : Result := fetchTick 0x3D#8 4 (.abx base) opAnd s

/-- AND base,Y: 39, 4 cycles (R146). -/
def execAndAby (base : Addr) (s : State) : Result := fetchTick 0x39#8 4 (.aby base) opAnd s

/-- AND (zp,X): 21, 6 cycles (R146). -/
def execAndIzx (zp : Byte) (s : State) : Result := fetchTick 0x21#8 6 (.izx zp) opAnd s

/-- AND (zp),Y: 31, 5 cycles (R146). -/
def execAndIzy (zp : Byte) (s : State) : Result := fetchTick 0x31#8 5 (.izy zp) opAnd s

/-- EOR #imm: 49, 2 cycles (R147). -/
def execEorImm (imm : Byte) (s : State) : Result := fetchTick 0x49#8 2 (.imm imm) opEor s

/-- EOR zp: 45, 3 cycles (R147). -/
def execEorZp0 (zp : Byte) (s : State) : Result := fetchTick 0x45#8 3 (.zp0 zp) opEor s

/-- EOR zp,X: 55, 4 cycles (R147). -/
def execEorZpx (zp : Byte) (s : State) : Result := fetchTick 0x55#8 4 (.zpx zp) opEor s

/-- EOR addr: 4D, 4 cycles (R147). -/
def execEorAbs (addr : Addr) (s : State) : Result := fetchTick 0x4D#8 4 (.abs addr) opEor s

/-- EOR base,X: 5D, 4 cycles (R147). -/
def execEorAbx (base : Addr) (s : State) : Result := fetchTick 0x5D#8 4 (.abx base) opEor s

/-- EOR base,Y: 59, 4 cycles (R147). -/
def execEorAby (base : Addr) (s : State) : Result := fetchTick 0x59#8 4 (.aby base) opEor s

/-- EOR (zp,X): 41, 6 cycles (R147). -/
def execEorIzx (zp : Byte) (s : State) : Result := fetchTick 0x41#8 6 (.izx zp) opEor s

/-- EOR (zp),Y: 51, 5 cycles (R147). -/
def execEorIzy (zp : Byte) (s : State) : Result := fetchTick 0x51#8 5 (.izy zp) opEor s

/-- ORA #imm: 09, 2 cycles (R148). -/
def execOraImm (imm : Byte) (s : State) : Result := fetchTick 0x09#8 2 (.imm imm) opOra s

/-- ORA zp: 05, 3 cycles (R148). -/
def execOraZp0 (zp : Byte) (s : State) : Result := fetchTick 0x05#8 3 (.zp0 zp) opOra s

/-- ORA zp,X: 15, 4 cycles (R148). -/
def execOraZpx (zp : Byte) (s : State) : Result := fetchTick 0x15#8 4 (.zpx zp) opOra s

/-- ORA addr: 0D, 4 cycles (R148). -/
def execOraAbs (addr : Addr) (s : State) : Result := fetchTick 0x0D#8 4 (.abs addr) opOra s

/-- ORA base,X: 1D, 4 cycles (R148). -/
def execOraAbx (base : Addr) (s : State) : Result := fetchTick 0x1D#8 4 (.abx base) opOra s

/-- ORA base,Y: 19, 4 cycles (R148). -/
def execOraAby (base : Addr) (s : State) : Result := fetchTick 0x19#8 4 (.aby base) opOra s

/-- ORA (zp,X): 01, 6 cycles (R148). -/
def execOraIzx (zp : Byte) (s : State) : Result := fetchTick 0x01#8 6 (.izx zp) opOra s

/-- ORA (zp),Y: 11, 5 cycles (R148). -/
def execOraIzy (zp : Byte) (s : State) : Result := fetchTick 0x11#8 5 (.izy zp) opOra s

/-- BIT zp: 24, 3 cycles (R149). -/
def execBitZp0 (zp : Byte) (s : State) : Result := fetchTick 0x24#8 3 (.zp0 zp) opBit s

/-- BIT addr: 2C, 4 cycles (R149). -/
def execBitAbs (addr : Addr) (s : State) : Result := fetchTick 0x2C#8 4 (.abs addr) opBit s

/-- ASL A: 0A, 2 cycles (R150). -/
def execAslAcc (s : State) : Result := fetchTick 0x0A#8 2 .acc opAsl s

/-- ASL zp: 06, 5 cycles (R150). -/
def execAslZp0 (zp : Byte) (s : State) : Result := fetchTick 0x06#8 5 (.zp0 zp) opAsl s

/-- ASL zp,X: 16, 6 cycles (R150). -/
def execAslZpx (zp : Byte) (s : State) : Result := fetchTick 0x16#8 6 (.zpx zp) opAsl s

/-- ASL addr: 0E, 6 cycles (R150). -/
def execAslAbs (addr : Addr) (s : State) : Result := fetchTick 0x0E#8 6 (.abs addr) opAsl s

/-- ASL base,X: 1E, 7 cycles (R150). -/
def execAslAbx (base : Addr) (s : State) : Result := fetchTick 0x1E#8 7 (.abx base) opAsl s

/-- LSR A: 4A, 2 cycles (R151). -/
def execLsrAcc (s : State) : Result := fetchTick 0x4A#8 2 .acc opLsr s

/-- LSR zp: 46, 5 cycles (R151). -/
def execLsrZp0 (zp : Byte) (s : State) : Result := fetchTick 0x46#8 5 (.zp0 zp) opLsr s

/-- LSR zp,X: 56, 6 cycles (R151). -/
def execLsrZpx (zp : Byte) (s : State) : Result := fetchTick 0x56#8 6 (.zpx zp) opLsr s

/-- LSR addr: 4E, 6 cycles (R151). -/
def execLsrAbs (addr : Addr) (s : State) : Result := fetchTick 0x4E#8 6 (.abs addr) opLsr s

/-- LSR base,X: 5E, 7 cycles (R151). -/
def execLsrAbx (base : Addr) (s : State) : Result := fetchTick 0x5E#8 7 (.abx base) opLsr s

/-- ROL A: 2A, 2 cycles (R152). -/
def execRolAcc (s : State) : Result := fetchTick 0x2A#8 2 .acc opRol s

/-- ROL zp: 26, 5 cycles (R152). -/
def execRolZp0 (zp : Byte) (s : State) : Result := fetchTick 0x26#8 5 (.zp0 zp) opRol s

/-- ROL zp,X: 36, 6 cycles (R152). -/
def execRolZpx (zp : Byte) (s : State) : Result := fetchTick 0x36#8 6 (.zpx zp) opRol s

/-- ROL addr: 2E, 6 cycles (R152). -/
def execRolAbs (addr : Addr) (s : State) : Result := fetchTick 0x2E#8 6 (.abs addr) opRol s

/-- ROL base,X: 3E, 7 cycles (R152). -/
def execRolAbx (base : Addr) (s : State) : Result := fetchTick 0x3E#8 7 (.abx base) opRol s

/-- ROR A: 6A, 2 cycles (R153). -/
def execRorAcc (s : State) : Result := fetchTick 0x6A#8 2 .acc opRor s

/-- ROR zp: 66, 5 cycles (R153). -/
def execRorZp0 (zp : Byte) (s : State) : Result := fetchTick 0x66#8 5 (.zp0 zp) opRor s

/-- ROR zp,X: 76, 6 cycles (R153). -/
def execRorZpx (zp : Byte) (s : State) : Result := fetchTick 0x76#8 6 (.zpx zp) opRor s

/-- ROR addr: 6E, 6 cycles (R153). -/
def execRorAbs (addr : Addr) (s : State) : Result := fetchTick 0x6E#8 6 (.abs addr) opRor s

/-- ROR base,X: 7E, 7 cycles (R153). -/
def execRorAbx (base : Addr) (s : State) : Result := fetchTick 0x7E#8 7 (.abx base) opRor s

end Sys2Proof.Machine
end

