-- ==== Sys2Proof/Machine/Stack.lean ====
section
/-! DEFINITION. Stack instructions (spec/42_stack.md, R125 to R129). -/

namespace Sys2Proof.Machine

/-! The operations, once each. -/

/-- PHA (R126). -/
def opPha : Operation := fun _ s => (s.push s.a, false)

/-- PHP (R127): the pushed copy has B = 1 and U = 1; P is unchanged. -/
def opPhp : Operation := fun _ s => (s.push (pushedBySoftware s.p), false)

/-- PLA (R128). -/
def opPla : Operation := fun _ s => ({ s.pop with a := s.pulled }.setZN s.pulled, false)

/-- PLP (R129): B <- 0, U <- 1, the six other bits from the pulled byte. -/
def opPlp : Operation := fun _ s => ({ s.pop with p := pulledStatus s.pulled }, false)

/-! The instructions: one meaning for each row of the opcode table, its opcode, base cycles, mode and operation. -/

/-- PHA: 48, 3 cycles (R126). -/
def execPha (s : State) : Result := fetchTick 0x48#8 3 .imp opPha s

/-- PHP: 08, 3 cycles (R127). -/
def execPhp (s : State) : Result := fetchTick 0x08#8 3 .imp opPhp s

/-- PLA: 68, 4 cycles (R128). -/
def execPla (s : State) : Result := fetchTick 0x68#8 4 .imp opPla s

/-- PLP: 28, 4 cycles (R129). -/
def execPlp (s : State) : Result := fetchTick 0x28#8 4 .imp opPlp s

end Sys2Proof.Machine
end

