-- ==== Sys2Proof/Machine/System.lean ====
section
/-! DEFINITION. Flag, system and no-operation instructions, and the undocumented opcodes
(spec/46_flags_system.md, R175 to R186). -/

namespace Sys2Proof.Machine

/-! The operations, once each. -/

/-- CLC (R176). -/
def opClc : Operation := fun _ s => (s.setFlag .c false, false)

/-- CLD (R177). -/
def opCld : Operation := fun _ s => (s.setFlag .d false, false)

/-- CLI (R178). -/
def opCli : Operation := fun _ s => (s.setFlag .i false, false)

/-- CLV (R179). -/
def opClv : Operation := fun _ s => (s.setFlag .v false, false)

/-- SEC (R180). -/
def opSec : Operation := fun _ s => (s.setFlag .c true, false)

/-- SED (R181). -/
def opSed : Operation := fun _ s => (s.setFlag .d true, false)

/-- SEI (R182). -/
def opSei : Operation := fun _ s => (s.setFlag .i true, false)

/-- BRK (R183): the padding byte is skipped, then the exception is entered through the IRQ/BRK vector. -/
def opBrk : Operation := fun _ s =>
  let s1 := { s with pc := s.pc + 1 }
  (s1.enterException (pushedBySoftware s1.p) irqVector, false)

/-- RTI (R184). -/
def opRti : Operation := fun _ s => (s.returnFromException, false)

/-- NOP (R185). -/
def opNop : Operation := fun _ s => (s, false)

/-! The instructions: one meaning for each row of the opcode table, its opcode, base cycles, mode and operation. -/

/-- CLC: 18, 2 cycles (R176). -/
def execClc (s : State) : Result := fetchTick 0x18#8 2 .imp opClc s

/-- CLD: D8, 2 cycles (R177). -/
def execCld (s : State) : Result := fetchTick 0xD8#8 2 .imp opCld s

/-- CLI: 58, 2 cycles (R178). -/
def execCli (s : State) : Result := fetchTick 0x58#8 2 .imp opCli s

/-- CLV: B8, 2 cycles (R179). -/
def execClv (s : State) : Result := fetchTick 0xB8#8 2 .imp opClv s

/-- SEC: 38, 2 cycles (R180). -/
def execSec (s : State) : Result := fetchTick 0x38#8 2 .imp opSec s

/-- SED: F8, 2 cycles (R181). -/
def execSed (s : State) : Result := fetchTick 0xF8#8 2 .imp opSed s

/-- SEI: 78, 2 cycles (R182). -/
def execSei (s : State) : Result := fetchTick 0x78#8 2 .imp opSei s

/-- BRK: 00, 7 cycles (R183). -/
def execBrk (s : State) : Result := fetchTick 0x00#8 7 .imp opBrk s

/-- RTI: 40, 6 cycles (R184). -/
def execRti (s : State) : Result := fetchTick 0x40#8 6 .imp opRti s

/-- NOP: EA, 2 cycles (R185). -/
def execNop (s : State) : Result := fetchTick 0xEA#8 2 .imp opNop s

/-- An undocumented opcode (R186), as ILLEGAL_OPCODE_POLICY has it. -/
def execUndocumented (op : Byte) (s : State) : Result := onBus s (undocumentedFetch op)

end Sys2Proof.Machine
end

