-- ==== Sys2Proof/Machine/Step.lean ====
section
/-! DEFINITION. One step: one clock tick (R3, R95), and where a fetch looks. -/

namespace Sys2Proof.Machine

/-- The instruction whose opcode is at PC, read from memory at the tick that starts it (R67, R95). -/
def fetchInstr (s : State) : Instr := decodeWindow (s.read s.pc) (s.read (s.pc + 1)) (s.read (s.pc + 2))

/-- An Idle tick (R95, R204): an interrupt entry, or the fetch tick of the instruction at PC. Without the bus
connection either one marks the fault (R192, log entry 3). -/
def idleTick (s : State) : Host.Outcome State Fault Refusal :=
  match pendingInterrupt s with
  | some vector => endTick (onBus s (interruptEntry vector))
  | none => endTick (exec (fetchInstr s) s)

/-- One tick (R95). In a marked state there is no step (R35, R192, R186). -/
def step (s : State) : Host.Outcome State Fault Refusal :=
  match s.fault, s.refused with
  | some f, _ => .fault f
  | none, some r => .refused (.illegalOpcode r.op r.addr)
  | none, none => if s.cycles = 0 then idleTick s else .next s.countDown

/-- Store bytes at consecutive addresses, modulo 65536 (R56). -/
def State.writeBytes (s : State) : Addr → List Byte → State
  | _, [] => s
  | a, b :: bs => (s.write a b).writeBytes (a + 1) bs

/-- `s` with a table word's instruction where the next tick fetches, in a state whose next tick is a fetch: Idle,
connected, unmarked, no interrupt pending (log entry 7). -/
def State.withFetchWord (s : State) (nbits w : Nat) : State :=
  { s.writeBytes s.pc (tableWordBytes nbits w) with
    cycles := 0, connected := true, fault := none, refused := none, irqLine := false, nmiPending := false }

end Sys2Proof.Machine
end

