-- ==== Sys2Proof/Machine/Descriptor.lean ====
section
/-! DEFINITION. Instruction descriptors (R92): the mnemonic, the operand form and the operation of each
instruction, in the terms claims use. -/

namespace Sys2Proof

open Sys2Proof.Machine

/-- The 56 documented mnemonics (R72), and the one of the undocumented rows. -/
inductive Mnemonic where
  | lda | ldx | ldy | sta | stx | sty | tax | tay | txa | tya | tsx | txs | pha | php | pla | plp | adc | sbc
  | cmp | cpx | cpy | inc | dec | inx | iny | dex | dey | and | eor | ora | bit | asl | lsr | rol | ror | jsr
  | rts | bcc | bcs | beq | bmi | bne | bpl | bvc | bvs | jmp | clc | cld | cli | clv | sec | sed | sei | brk
  | rti | nop
  | undocumented
deriving DecidableEq, Repr

/-- The mnemonic of an instruction (R72). -/
def Instr.mnemonic : Instr → Mnemonic
  | .ldaImm _ | .ldaZp0 _ | .ldaZpx _ | .ldaAbs _ | .ldaAbx _ | .ldaAby _ | .ldaIzx _ | .ldaIzy _ => .lda
  | .ldxImm _ | .ldxZp0 _ | .ldxZpy _ | .ldxAbs _ | .ldxAby _ => .ldx
  | .ldyImm _ | .ldyZp0 _ | .ldyZpx _ | .ldyAbs _ | .ldyAbx _ => .ldy
  | .staZp0 _ | .staZpx _ | .staAbs _ | .staAbx _ | .staAby _ | .staIzx _ | .staIzy _ => .sta
  | .stxZp0 _ | .stxZpy _ | .stxAbs _ => .stx
  | .styZp0 _ | .styZpx _ | .styAbs _ => .sty
  | .tax => .tax
  | .tay => .tay
  | .txa => .txa
  | .tya => .tya
  | .tsx => .tsx
  | .txs => .txs
  | .pha => .pha
  | .php => .php
  | .pla => .pla
  | .plp => .plp
  | .adcImm _ | .adcZp0 _ | .adcZpx _ | .adcAbs _ | .adcAbx _ | .adcAby _ | .adcIzx _ | .adcIzy _ => .adc
  | .sbcImm _ | .sbcZp0 _ | .sbcZpx _ | .sbcAbs _ | .sbcAbx _ | .sbcAby _ | .sbcIzx _ | .sbcIzy _ => .sbc
  | .cmpImm _ | .cmpZp0 _ | .cmpZpx _ | .cmpAbs _ | .cmpAbx _ | .cmpAby _ | .cmpIzx _ | .cmpIzy _ => .cmp
  | .cpxImm _ | .cpxZp0 _ | .cpxAbs _ => .cpx
  | .cpyImm _ | .cpyZp0 _ | .cpyAbs _ => .cpy
  | .incZp0 _ | .incZpx _ | .incAbs _ | .incAbx _ => .inc
  | .decZp0 _ | .decZpx _ | .decAbs _ | .decAbx _ => .dec
  | .inx => .inx
  | .iny => .iny
  | .dex => .dex
  | .dey => .dey
  | .andImm _ | .andZp0 _ | .andZpx _ | .andAbs _ | .andAbx _ | .andAby _ | .andIzx _ | .andIzy _ => .and
  | .eorImm _ | .eorZp0 _ | .eorZpx _ | .eorAbs _ | .eorAbx _ | .eorAby _ | .eorIzx _ | .eorIzy _ => .eor
  | .oraImm _ | .oraZp0 _ | .oraZpx _ | .oraAbs _ | .oraAbx _ | .oraAby _ | .oraIzx _ | .oraIzy _ => .ora
  | .bitZp0 _ | .bitAbs _ => .bit
  | .aslAcc | .aslZp0 _ | .aslZpx _ | .aslAbs _ | .aslAbx _ => .asl
  | .lsrAcc | .lsrZp0 _ | .lsrZpx _ | .lsrAbs _ | .lsrAbx _ => .lsr
  | .rolAcc | .rolZp0 _ | .rolZpx _ | .rolAbs _ | .rolAbx _ => .rol
  | .rorAcc | .rorZp0 _ | .rorZpx _ | .rorAbs _ | .rorAbx _ => .ror
  | .jsr _ => .jsr
  | .rts => .rts
  | .bcc _ => .bcc
  | .bcs _ => .bcs
  | .beq _ => .beq
  | .bmi _ => .bmi
  | .bne _ => .bne
  | .bpl _ => .bpl
  | .bvc _ => .bvc
  | .bvs _ => .bvs
  | .jmpAbs _ | .jmpInd _ => .jmp
  | .clc => .clc
  | .cld => .cld
  | .cli => .cli
  | .clv => .clv
  | .sec => .sec
  | .sed => .sed
  | .sei => .sei
  | .brk => .brk
  | .rti => .rti
  | .nop => .nop
  | .undocumented _ => .undocumented

/-- The operand form of an instruction: its mode with its operand (R72, R73). -/
def Instr.operand : Instr → Operand
  | .tax | .tay | .txa | .tya | .tsx | .txs | .pha | .php | .pla | .plp | .inx | .iny | .dex | .dey | .rts |
    .clc | .cld | .cli | .clv | .sec | .sed | .sei | .brk | .rti | .nop | .undocumented _ => .imp
  | .aslAcc | .lsrAcc | .rolAcc | .rorAcc => .acc
  | .ldaImm v | .ldxImm v | .ldyImm v | .adcImm v | .sbcImm v | .cmpImm v | .cpxImm v | .cpyImm v |
    .andImm v | .eorImm v | .oraImm v => .imm v
  | .ldaZp0 a | .ldxZp0 a | .ldyZp0 a | .staZp0 a | .stxZp0 a | .styZp0 a | .adcZp0 a | .sbcZp0 a |
    .cmpZp0 a | .cpxZp0 a | .cpyZp0 a | .incZp0 a | .decZp0 a | .andZp0 a | .eorZp0 a | .oraZp0 a |
    .bitZp0 a | .aslZp0 a | .lsrZp0 a | .rolZp0 a | .rorZp0 a => .zp0 a
  | .ldaZpx a | .ldyZpx a | .staZpx a | .styZpx a | .adcZpx a | .sbcZpx a | .cmpZpx a | .incZpx a |
    .decZpx a | .andZpx a | .eorZpx a | .oraZpx a | .aslZpx a | .lsrZpx a | .rolZpx a | .rorZpx a => .zpx a
  | .ldxZpy a | .stxZpy a => .zpy a
  | .ldaAbs a | .ldxAbs a | .ldyAbs a | .staAbs a | .stxAbs a | .styAbs a | .adcAbs a | .sbcAbs a |
    .cmpAbs a | .cpxAbs a | .cpyAbs a | .incAbs a | .decAbs a | .andAbs a | .eorAbs a | .oraAbs a |
    .bitAbs a | .aslAbs a | .lsrAbs a | .rolAbs a | .rorAbs a | .jsr a | .jmpAbs a => .abs a
  | .ldaAbx a | .ldyAbx a | .staAbx a | .adcAbx a | .sbcAbx a | .cmpAbx a | .incAbx a | .decAbx a |
    .andAbx a | .eorAbx a | .oraAbx a | .aslAbx a | .lsrAbx a | .rolAbx a | .rorAbx a => .abx a
  | .ldaAby a | .ldxAby a | .staAby a | .adcAby a | .sbcAby a | .cmpAby a | .andAby a | .eorAby a | .oraAby a => .aby a
  | .jmpInd a => .ind a
  | .ldaIzx a | .staIzx a | .adcIzx a | .sbcIzx a | .cmpIzx a | .andIzx a | .eorIzx a | .oraIzx a => .izx a
  | .ldaIzy a | .staIzy a | .adcIzy a | .sbcIzy a | .cmpIzy a | .andIzy a | .eorIzy a | .oraIzy a => .izy a
  | .bcc d | .bcs d | .beq d | .bmi d | .bne d | .bpl d | .bvc d | .bvs d => .rel d

/-- The operation of a mnemonic (R92). An undocumented opcode has none (R186). -/
def Mnemonic.operation : Mnemonic → Option Operation
  | .lda => some opLda
  | .ldx => some opLdx
  | .ldy => some opLdy
  | .sta => some opSta
  | .stx => some opStx
  | .sty => some opSty
  | .tax => some opTax
  | .tay => some opTay
  | .txa => some opTxa
  | .tya => some opTya
  | .tsx => some opTsx
  | .txs => some opTxs
  | .pha => some opPha
  | .php => some opPhp
  | .pla => some opPla
  | .plp => some opPlp
  | .adc => some opAdc
  | .sbc => some opSbc
  | .cmp => some opCmp
  | .cpx => some opCpx
  | .cpy => some opCpy
  | .inc => some opInc
  | .dec => some opDec
  | .inx => some opInx
  | .iny => some opIny
  | .dex => some opDex
  | .dey => some opDey
  | .and => some opAnd
  | .eor => some opEor
  | .ora => some opOra
  | .bit => some opBit
  | .asl => some opAsl
  | .lsr => some opLsr
  | .rol => some opRol
  | .ror => some opRor
  | .jsr => some opJsr
  | .rts => some opRts
  | .bcc => some opBcc
  | .bcs => some opBcs
  | .beq => some opBeq
  | .bmi => some opBmi
  | .bne => some opBne
  | .bpl => some opBpl
  | .bvc => some opBvc
  | .bvs => some opBvs
  | .jmp => some opJmp
  | .clc => some opClc
  | .cld => some opCld
  | .cli => some opCli
  | .clv => some opClv
  | .sec => some opSec
  | .sed => some opSed
  | .sei => some opSei
  | .brk => some opBrk
  | .rti => some opRti
  | .nop => some opNop
  | .undocumented => none

/-- The opcode byte of an instruction (R70). -/
def Instr.opcode (i : Instr) : Byte := (encode i).headD 0x00#8

/-- The length of an instruction in bytes (R70, R100). -/
def Instr.length (i : Instr) : Addr := i.operand.bytes + 1

/-- The base cycle count of an instruction in the dispatch table (R72, R92). -/
def Instr.baseCycles (i : Instr) : Byte := (opcodeBaseCycles i.opcode).getD 0

end Sys2Proof
end

