-- ==== Sys2Proof/Machine/HostPort.lean ====
section
/-! DEFINITION. The host's side (R57, R193, R194, R206, R221): what may be done to the core between two ticks. The
tick itself is `step`. -/

namespace Sys2Proof.Machine

/-- The error results of the host's two wiring operations (R193, R194, R195 rows 1 and 2). -/
inductive HostError where
  /-- the back-reference cannot be wired: there is no system (R193) -/
  | constructionError
  /-- `connect` was given no reference (R194) -/
  | unknown
deriving DecidableEq, Repr

/-- `construct()` (R193, R220): the power-on state, or the error when the bus connection cannot be wired. -/
def construct (wired : Bool) (params : Params) : Except HostError State :=
  if wired then .ok (State.powerOn params) else .error .constructionError

/-- `connect(busRef)` (R194): with a reference the core is connected; without one `connected` stays as it is (log
entry 16). It is no move of R206's table: construction makes the connection of a system, once (R33). -/
def State.connect (s : State) (hasReference : Bool) : State × Option HostError :=
  if hasReference then ({ s with connected := true }, none) else (s, some .unknown)

/-- A bus read of the host (R57): never fails, changes nothing. -/
def State.busRead (s : State) (addr : Addr) : Byte := s.read addr

/-- A bus write of the host (R57): never fails, one byte. -/
def State.busWrite (s : State) (addr : Addr) (v : Byte) : State := s.write addr v

/-- PC after a reset (R220, R221): RESET_PC, or the vector in memory as it is at the reset. No rule says what a reset
under `Vector` leaves without the bus connection, where MemRead fails (R53); that the vector is read all the same is
the model's choice (DESIGN CHOICE, log entry 19). -/
def State.resetPc (s : State) : Addr :=
  match s.params.resetPcSource with
  | .constant pc => pc
  | .vector => s.read16 resetVector

/-- The host's `reset` (R221): registers, P, the counter and the scratch fields to their power-on values; memory,
`connected` and the marks stay, and so do the interrupt lines (log entry 9). It takes no tick. -/
def State.hostReset (s : State) : State :=
  { s with
    a := 0x00#8, x := 0x00#8, y := 0x00#8, sp := 0x00#8, p := 0x20#8, pc := s.resetPc
    cycles := 0x00#8, opcode := 0x00#8, fetched := 0x00#8, addrAbs := 0x0000#16, addrRel := 0x0000#16 }

/-- Drive `irq_line` (R201); there is no line without HAS_INTERRUPT_LINES (R206). -/
def State.driveIrq (s : State) (level : Bool) : State :=
  if s.params.hasInterruptLines then { s with irqLine := level } else s

/-- Drive `nmi_line` (R201): a change from 0 to 1 sets `nmi_pending`. -/
def State.driveNmi (s : State) (level : Bool) : State :=
  if s.params.hasInterruptLines then
    { s with nmiLine := level, nmiPending := s.nmiPending || (level && !s.nmiLine) }
  else s

/-- What the host observes between ticks (R206). -/
structure Observation where
  a : Byte
  x : Byte
  y : Byte
  sp : Byte
  pc : Addr
  p : Byte
  cycles : Byte
deriving DecidableEq, Repr

/-- `observe` (R206). -/
def State.observe (s : State) : Observation :=
  { a := s.a, x := s.x, y := s.y, sp := s.sp, pc := s.pc, p := s.p, cycles := s.cycles }

/-- The host's moves on a constructed system that may change its state, the tick apart: the rows of R206's table, and
no other ("The host has no other move"). -/
inductive HostMove where
  | busWrite (addr : Addr) (v : Byte)
  | setFlag (f : Flag) (b : Bool)
  | reset
  | driveIrq (level : Bool)
  | driveNmi (level : Bool)
deriving DecidableEq, Repr

/-- The state a host move leaves. -/
def State.hostMove (s : State) : HostMove → State
  | .busWrite addr v => s.busWrite addr v
  | .setFlag f b => s.setFlag f b
  | .reset => s.hostReset
  | .driveIrq level => s.driveIrq level
  | .driveNmi level => s.driveNmi level

/-- The event table of R195: every outcome other than an ordinary next state. -/
inductive Event where
  | constructionError
  | unknown
  | invalidRead
  | invalidWrite
  | faultUnconnected
  | refusedIllegalOpcode
  | brk
  | irq
  | nmi
deriving DecidableEq, Repr

/-- The codes of R195. -/
def Event.code : Event → Nat
  | .constructionError => 1 | .unknown => 2 | .invalidRead => 3 | .invalidWrite => 4 | .faultUnconnected => 5
  | .refusedIllegalOpcode => 6 | .brk => 7 | .irq => 8 | .nmi => 9

end Sys2Proof.Machine
end

