-- ==== Sys2Proof/Safety.lean ====
section
/-! DEFINITION. The terms claims use: a running state, an instruction boundary, what a claim may see of a state,
the machine invariant, and a safe run. -/

namespace Sys2Proof.Machine

/-- No fault and no refusal is recorded (R35): the machine has a step. -/
def State.Running (s : State) : Prop := s.fault = none ∧ s.refused = none

/-- An instruction boundary at which the next tick fetches the instruction at PC (R98, R204): running, Idle,
connected, no interrupt to take. -/
structure State.FetchesNext (s : State) : Prop where
  running : s.Running
  idle : s.cycles = 0
  connected : s.connected = true
  noInterrupt : pendingInterrupt s = none

/-- The bytes of an instruction stand at PC (R70). -/
def State.Holds (s : State) (i : Instr) : Prop :=
  ∀ k (h : k < (encode i).length), s.read (s.pc + BitVec.ofNat 16 k) = (encode i)[k]

/-- Everything of a state that a claim may depend on: all of it but the scratch fields (R34, D19). -/
structure Visible where
  a : Byte
  x : Byte
  y : Byte
  sp : Byte
  p : Byte
  pc : Addr
  cycles : Byte
  connected : Bool
  fault : Option Fault
  refused : Option IllegalOpcode
  irqLine : Bool
  nmiLine : Bool
  nmiPending : Bool
  mem : Memory
  params : Params
deriving DecidableEq, Repr

/-- The visible part of a state. -/
def State.visible (s : State) : Visible :=
  { a := s.a, x := s.x, y := s.y, sp := s.sp, p := s.p, pc := s.pc, cycles := s.cycles
    connected := s.connected, fault := s.fault, refused := s.refused
    irqLine := s.irqLine, nmiLine := s.nmiLine, nmiPending := s.nmiPending, mem := s.mem, params := s.params }

/-- What a claim about one instruction says (R110): in state `s` the instruction completes, the visible state it
leaves is `v` but for P, and each flag has the value listed for it or, if none is listed, the value it had. -/
def RunsTo (i : Instr) (s : State) (v : Visible) (flags : List (Flag × Bool)) : Prop :=
  ∃ t, exec i s = .next t ∧ t.visible = { v with p := t.p } ∧
    ∀ f, t.getFlag f = (flags.lookup f).getD (s.getFlag f)

/-- Z and N of a result (R10). -/
def zn (v : Byte) : List (Flag × Bool) := [(.z, v == 0x00#8), (.n, v.getLsbD 7)]

/-- The invariant of the machine: memory is in its canonical form (R50, R51); P.U is 1 (R28); a fault and a refusal
are never both recorded (R35, R205); without interrupt lines no interrupt state is set (R38, R201). -/
structure State.Inv (s : State) : Prop where
  memory : Memory.wf s.mem = true
  unusedSet : s.getFlag .u = true
  oneMark : s.fault = none ∨ s.refused = none
  noLines : s.params.hasInterruptLines = false →
    s.irqLine = false ∧ s.nmiLine = false ∧ s.nmiPending = false

/-- `k` ticks from `s` answer a next state each, and none of them records a fault or a refusal. -/
def SafeRun : Nat → State → Prop
  | 0, s => s.Running
  | k + 1, s => s.Running ∧ ∃ t, step s = .next t ∧ SafeRun k t

end Sys2Proof.Machine

namespace Sys2Proof

open Sys2Proof.Machine

/-- The state at resolver entry of an instruction whose opcode is at PC of `s` (R74, R95). -/
def Instr.entry (i : Instr) (s : State) : State := s.startFetch i.opcode i.baseCycles

/-- The address an instruction reads its operand at, or stores to (R77 to R86). -/
def Instr.target (i : Instr) (s : State) : Addr := i.operand.address (i.entry s)

/-- The operand byte of an instruction (R90). -/
def Instr.source (i : Instr) (s : State) : Byte :=
  match i.operand with
  | .imp | .acc => s.a
  | .imm v => v
  | _ => s.read (i.target s)

/-- The operations that report the page-cross cycle, `e_op = 1` (R94). -/
def Mnemonic.reportsExtra (m : Mnemonic) : Bool :=
  [Mnemonic.adc, .and, .cmp, .eor, .lda, .ldx, .ldy, .ora, .sbc].contains m

/-- The extra cycle of a page-crossing read (R94, R96). -/
def Instr.pageCycle (i : Instr) (s : State) : Byte :=
  bit (i.operand.extraCycle (i.entry s) && i.mnemonic.reportsExtra)

/-- The visible state after the fetch tick of an instruction, before the decrement, if its operation does nothing:
PC is past the instruction (R89) and the counter holds its cycles (R95, R96). -/
def Instr.done (i : Instr) (s : State) : Visible :=
  { s.visible with pc := s.pc + i.length, cycles := i.baseCycles + i.pageCycle s }

/-- The encodings a rule gives a mnemonic: opcode, mode, bytes, base cycles. Every instruction of the mnemonic has
one of them, and each opcode decodes to an instruction of the mnemonic. -/
def EncodedBy (m : Mnemonic) (rows : List (Byte × Mode × Nat × Nat)) : Prop :=
  (∀ i : Instr, i.mnemonic = m →
    (i.opcode, i.operand.mode, i.length.toNat, i.baseCycles.toNat) ∈ rows) ∧
  (∀ r ∈ rows, ∀ b1 b2, (decodeWindow r.1 b1 b2).mnemonic = m)

end Sys2Proof
end

