-- ==== Sys2Proof/Certificates/Slice0/Obligations.lean ====
section
/-! DEFINITION. The statements for the provers. Each is about every state and every operand; a docstring names the
rules it formalises. Claims about one instruction use `RunsTo` (it completes, and everything a claim may see is
accounted for) and never the scratch fields (R34, D19). -/

open Sys2Proof Sys2Proof.Machine

/-! ## Encoding and decoding -/

/-- R70 to R72, R93, R99: decoding an encoded well-formed instruction, whatever bytes follow, gives it back with
every operand at every value, and exactly its bytes are consumed. -/
def Obligations.DecodeOfEncodeIsTheInstruction : Prop :=
  ∀ (i : Instr) (rest : List Byte), i.wellFormed = true → decode (encode i ++ rest) = .ok (i, rest)

/-- R72, R99: the other direction: what the decoder reads is well formed and its encoding is the bytes read. -/
def Obligations.EncodeOfDecodeIsTheBytes : Prop :=
  ∀ (bytes rest : List Byte) (i : Instr), decode bytes = .ok (i, rest) →
    i.wellFormed = true ∧ encode i ++ rest = bytes

/-- R70, R71, R72: words written out from the spec's encodings, one for each instruction family, decode to the
instructions they stand for. -/
def Obligations.SpecWordsDecode : Prop :=
  decode [0xA9#8, 0x80#8] = .ok (.ldaImm 0x80#8, []) ∧
  decode [0x8D#8, 0x00#8, 0x02#8] = .ok (.staAbs 0x0200#16, []) ∧
  decode [0x48#8] = .ok (.pha, []) ∧
  decode [0x7D#8, 0xFF#8, 0x02#8] = .ok (.adcAbx 0x02FF#16, []) ∧
  decode [0x66#8, 0x10#8] = .ok (.rorZp0 0x10#8, []) ∧
  decode [0x6C#8, 0xFF#8, 0x02#8] = .ok (.jmpInd 0x02FF#16, []) ∧
  decode [0x00#8, 0xEA#8] = .ok (.brk, [0xEA#8]) ∧
  decode [0x02#8] = .ok (.undocumented 0x02#8, [])

/-- R100: the length of an instruction follows from its opcode alone: 1 plus the operand bytes of its mode (R73), and a
byte sequence is too short for it exactly when it ends before that length. -/
def Obligations.LengthFollowsFromTheOpcode : Prop :=
  (∀ i : Instr, i.wellFormed = true →
    (encode i).length = opcodeLength i.opcode ∧ (encode i).length = i.operand.bytes.toNat + 1) ∧
  (∀ (op : Byte) (rest : List Byte),
    decode (op :: rest) = .error (.truncated op) ↔ rest.length + 1 < opcodeLength op)

/-- R93, R99: the dispatch table has 256 entries; the 105 opcodes of R99 are its placeholders, and they alone decode to
an undocumented instruction. -/
def Obligations.PlaceholdersAreTheUndocumentedOpcodes : Prop :=
  undocumentedOpcodes.length = 105 ∧ undocumentedOpcodes.Nodup ∧
  opcodeMap.flatten.length = 256 ∧
  ∀ op b1 b2 : Byte,
    (decodeWindow op b1 b2 = .undocumented op ↔ op ∈ undocumentedOpcodes) ∧
    (opcodeBaseCycles op = none ↔ op ∈ undocumentedOpcodes)

/-! ## The tick -/

/-- R95: when the next tick fetches and the bytes at PC are those of a well-formed instruction, the tick is the
meaning of that instruction in that state, followed by the decrement of R97. -/
def Obligations.TickRunsTheDecodedInstruction : Prop :=
  ∀ (i : Instr) (s : State), i.wellFormed = true → s.FetchesNext → s.Holds i → step s = endTick (exec i s)

/-- R97: a tick of a running machine with a positive counter decrements it and changes nothing else; the decrement that
ends a fetch tick does the same, and leaves a counter of 0 at 0. -/
def Obligations.ExecutingTickOnlyCountsDown : Prop :=
  (∀ s : State, s.Running → s.cycles ≠ 0 → step s = .next { s with cycles := s.cycles - 1 }) ∧
  (∀ s : State, endTick (.next s) = .next { s with cycles := BitVec.ofNat 8 (s.cycles.toNat - 1) })

/-- The condition of a branch, as flag and wanted value (R164 to R171). -/
def branchCondition : Mnemonic → Option (Flag × Bool)
  | .bcc => some (.c, false) | .bcs => some (.c, true) | .beq => some (.z, true) | .bne => some (.z, false)
  | .bmi => some (.n, true) | .bpl => some (.n, false) | .bvc => some (.v, false) | .bvs => some (.v, true)
  | _ => none

/-- Whether an instruction is a branch that is taken (R163). -/
def branchTaken (i : Instr) (s : State) : Bool :=
  match branchCondition i.mnemonic with
  | some (f, b) => s.getFlag f == b
  | none => false

/-- The address after a branch, and its target: PC after the instruction plus the signed displacement (R88, R163). -/
def branchTargetOf (s : State) (disp : Byte) : Addr := BitVec.ofInt 16 ((s.pc + 2).toNat + disp.toInt)

/-- N + k of R98: base count, page-cross cycle, and the cycles of a taken branch (R163). -/
def totalTicks (i : Instr) (s : State) : Nat :=
  i.baseCycles.toNat + (i.pageCycle s).toNat +
    match i.operand with
    | .rel d =>
      if branchTaken i s then
        if (branchTargetOf s d).toNat / 256 = (s.pc + 2).toNat / 256 then 1 else 2
      else 0
    | _ => 0

/-- R98: a documented instruction with base count N ≥ 1 and k extra cycles takes exactly N + k ticks: after each of the
first N + k ticks the registers and memory are what the fetch tick left, the counter holds the ticks that remain, and
it reaches 0 at tick N + k and not before; tick N + k + 1, unless it takes an interrupt, is the next fetch. -/
def Obligations.TimingLaw : Prop :=
  ∀ (i : Instr) (s : State), i.mnemonic ≠ .undocumented → s.FetchesNext → s.Holds i →
    ∃ t, exec i s = .next t ∧ 1 ≤ totalTicks i s ∧ totalTicks i s ≤ 8 ∧
      (∀ k, 1 ≤ k → k ≤ totalTicks i s →
        Sys2Proof.core.run k s = .next { t with cycles := BitVec.ofNat 8 (totalTicks i s - k) }) ∧
      (let u : State := { t with cycles := 0 }
       pendingInterrupt u = none →
        Sys2Proof.core.run (totalTicks i s + 1) s = endTick (exec (fetchInstr u) u))

/-- R232: the base counts by class: reads, stores, read-modify-writes, and the one-byte classes; the page-cross cycle is
charged to the nine reading mnemonics of R94 only, in Absolute,X, Absolute,Y and (Indirect),Y. -/
def Obligations.BaseCountsByClass : Prop :=
  (∀ i : Instr, i.mnemonic ∈ [Mnemonic.adc, .and, .cmp, .eor, .lda, .ldx, .ldy, .ora, .sbc, .bit, .cpx, .cpy] →
    (i.operand.mode, i.baseCycles.toNat) ∈ [(Mode.imm, 2), (.zp0, 3), (.zpx, 4), (.zpy, 4), (.abs, 4), (.abx, 4),
      (.aby, 4), (.izx, 6), (.izy, 5)]) ∧
  (∀ i : Instr, i.mnemonic ∈ [Mnemonic.sta, .stx, .sty] →
    (i.operand.mode, i.baseCycles.toNat) ∈ [(Mode.zp0, 3), (.zpx, 4), (.zpy, 4), (.abs, 4), (.abx, 5), (.aby, 5),
      (.izx, 6), (.izy, 6)]) ∧
  (∀ i : Instr, i.mnemonic ∈ [Mnemonic.asl, .lsr, .rol, .ror, .inc, .dec] →
    (i.operand.mode, i.baseCycles.toNat) ∈ [(Mode.acc, 2), (.zp0, 5), (.zpx, 6), (.abs, 6), (.abx, 7)]) ∧
  (∀ i : Instr, i.mnemonic ∈ [Mnemonic.tax, .tay, .txa, .tya, .tsx, .txs, .inx, .iny, .dex, .dey, .clc, .cld, .cli,
      .clv, .sec, .sed, .sei, .nop] → i.baseCycles = 2) ∧
  (∀ i : Instr, i.mnemonic ∈ [Mnemonic.pha, .php] → i.baseCycles = 3) ∧
  (∀ i : Instr, i.mnemonic ∈ [Mnemonic.pla, .plp] → i.baseCycles = 4) ∧
  (∀ i : Instr, i.mnemonic = .jmp →
    (i.operand.mode, i.baseCycles.toNat) ∈ [(Mode.abs, 3), (.ind, 5)]) ∧
  (∀ i : Instr, i.mnemonic ∈ [Mnemonic.jsr, .rts, .rti] → i.baseCycles = 6) ∧
  (∀ i : Instr, i.mnemonic = .brk → i.baseCycles = 7) ∧
  (∀ i : Instr, (branchCondition i.mnemonic).isSome = true → i.baseCycles = 2 ∧ i.operand.mode = .rel) ∧
  (∀ (i : Instr) (s : State), i.pageCycle s ≠ 0 →
    i.mnemonic ∈ [Mnemonic.adc, .and, .cmp, .eor, .lda, .ldx, .ldy, .ora, .sbc] ∧
    i.operand.mode ∈ [Mode.abx, .aby, .izy] ∧ i.pageCycle s = 1)

/-- R35, R95: a marked machine has no step, and a tick of a running one is a step. That the tick which sets a mark
answers a next state, and that a marked state answers fault or refused and not itself, is the model's choice (log
entry 2); that an unconnected tick which would take an interrupt sets the mark is too (log entry 3). -/
def Obligations.TicksAnswerExactlyWhileRunning : Prop :=
  ∀ s : State, (∃ t, step s = .next t) ↔ s.Running

/-! ## Addressing -/

/-- The address a mode gives, on numbers, as the pseudocode of R77 to R86 writes it: unbounded sums taken modulo 256
or 65536. `s` is the state at resolver entry. -/
def addressOnNumbers (s : State) : Operand → Option Nat
  | .imp | .acc | .rel _ => none
  | .imm _ => some s.pc.toNat
  | .zp0 b => some b.toNat
  | .zpx b => some ((b.toNat + s.x.toNat) % 256)
  | .zpy b => some ((b.toNat + s.y.toNat) % 256)
  | .abs a => some a.toNat
  | .abx a => some ((a.toNat + s.x.toNat) % 65536)
  | .aby a => some ((a.toNat + s.y.toNat) % 65536)
  | .ind p =>
    let byteAt (n : Nat) : Nat := (Memory.read s.mem n).toNat
    let phi := p.toNat / 256
    let plo := p.toNat % 256
    some (byteAt (phi * 256 + (plo + 1) % 256) * 256 + byteAt p.toNat)
  | .izx b =>
    let byteAt (n : Nat) : Nat := (Memory.read s.mem n).toNat
    let t := (b.toNat + s.x.toNat) % 256
    some (byteAt ((t + 1) % 256) * 256 + byteAt t)
  | .izy b =>
    let byteAt (n : Nat) : Nat := (Memory.read s.mem n).toNat
    let base := byteAt ((b.toNat + 1) % 256) * 256 + byteAt b.toNat
    some ((base + s.y.toNat) % 65536)

/-- R77 to R86: every mode that writes `addr_abs` writes the address of its pseudocode. -/
def Obligations.ModesComputeTheirAddress : Prop :=
  ∀ (s : State) (m : Operand) (n : Nat), addressOnNumbers s m = some n → (m.address s).toNat = n

/-- The page cross of a mode, on numbers (R82, R83, R86, R87). -/
def crossesOnNumbers (s : State) : Operand → Bool
  | .abx a => ((a.toNat + s.x.toNat) % 65536) / 256 != a.toNat / 256
  | .aby a => ((a.toNat + s.y.toNat) % 65536) / 256 != a.toNat / 256
  | .izy b =>
    let byteAt (n : Nat) : Nat := (Memory.read s.mem n).toNat
    let base := byteAt ((b.toNat + 1) % 256) * 256 + byteAt b.toNat
    ((base + s.y.toNat) % 65536) / 256 != base / 256
  | _ => false

/-- R82, R83, R86, R87: the modes that report the extra cycle report it exactly when the high byte of the sum is not
the high byte of the base, and no other mode reports one. -/
def Obligations.ModesReportThePageCross : Prop :=
  ∀ (s : State) (m : Operand), m.extraCycle s = crossesOnNumbers s m

/-- R90 for Immediate: in a state that holds the instruction, the operand byte is the byte `MemRead` gives at the
address the mode resolves to (log entry 4). -/
def Obligations.ImmediateOperandIsTheByteInMemory : Prop :=
  ∀ (i : Instr) (v : Byte) (s : State), i.operand = .imm v → s.Holds i → s.read (i.target s) = i.source s

/-! ## Loads, stores, transfers -/

/-- R111, R112, R113. -/
def Obligations.LoadsCopyTheirOperand : Prop :=
  EncodedBy .lda [(0xA9#8, .imm, 2, 2), (0xA5#8, .zp0, 2, 3), (0xB5#8, .zpx, 2, 4), (0xAD#8, .abs, 3, 4),
    (0xBD#8, .abx, 3, 4), (0xB9#8, .aby, 3, 4), (0xA1#8, .izx, 2, 6), (0xB1#8, .izy, 2, 5)] ∧
  EncodedBy .ldx [(0xA2#8, .imm, 2, 2), (0xA6#8, .zp0, 2, 3), (0xB6#8, .zpy, 2, 4), (0xAE#8, .abs, 3, 4),
    (0xBE#8, .aby, 3, 4)] ∧
  EncodedBy .ldy [(0xA0#8, .imm, 2, 2), (0xA4#8, .zp0, 2, 3), (0xB4#8, .zpx, 2, 4), (0xAC#8, .abs, 3, 4),
    (0xBC#8, .abx, 3, 4)] ∧
  ∀ (i : Instr) (s : State), s.connected = true →
    (i.mnemonic = .lda → RunsTo i s { i.done s with a := i.source s } (zn (i.source s))) ∧
    (i.mnemonic = .ldx → RunsTo i s { i.done s with x := i.source s } (zn (i.source s))) ∧
    (i.mnemonic = .ldy → RunsTo i s { i.done s with y := i.source s } (zn (i.source s)))

/-- R114, R115, R116: the one byte at the resolved address, no flag, no page-cross cycle. -/
def Obligations.StoresWriteOneByte : Prop :=
  EncodedBy .sta [(0x85#8, .zp0, 2, 3), (0x95#8, .zpx, 2, 4), (0x8D#8, .abs, 3, 4), (0x9D#8, .abx, 3, 5),
    (0x99#8, .aby, 3, 5), (0x81#8, .izx, 2, 6), (0x91#8, .izy, 2, 6)] ∧
  EncodedBy .stx [(0x86#8, .zp0, 2, 3), (0x96#8, .zpy, 2, 4), (0x8E#8, .abs, 3, 4)] ∧
  EncodedBy .sty [(0x84#8, .zp0, 2, 3), (0x94#8, .zpx, 2, 4), (0x8C#8, .abs, 3, 4)] ∧
  ∀ (i : Instr) (s : State), s.connected = true →
    (i.mnemonic = .sta → RunsTo i s { i.done s with mem := (s.write (i.target s) s.a).mem } []) ∧
    (i.mnemonic = .stx → RunsTo i s { i.done s with mem := (s.write (i.target s) s.x).mem } []) ∧
    (i.mnemonic = .sty → RunsTo i s { i.done s with mem := (s.write (i.target s) s.y).mem } [])

/-- R117 to R122: each transfer copies one register; all but TXS set Z and N from it. -/
def Obligations.TransfersCopyOneRegister : Prop :=
  EncodedBy .tax [(0xAA#8, .imp, 1, 2)] ∧
  EncodedBy .tay [(0xA8#8, .imp, 1, 2)] ∧
  EncodedBy .txa [(0x8A#8, .imp, 1, 2)] ∧
  EncodedBy .tya [(0x98#8, .imp, 1, 2)] ∧
  EncodedBy .tsx [(0xBA#8, .imp, 1, 2)] ∧
  EncodedBy .txs [(0x9A#8, .imp, 1, 2)] ∧
  ∀ s : State, s.connected = true →
    RunsTo .tax s { Instr.tax.done s with x := s.a } (zn s.a) ∧
    RunsTo .tay s { Instr.tay.done s with y := s.a } (zn s.a) ∧
    RunsTo .txa s { Instr.txa.done s with a := s.x } (zn s.x) ∧
    RunsTo .tya s { Instr.tya.done s with a := s.y } (zn s.y) ∧
    RunsTo .tsx s { Instr.tsx.done s with x := s.sp } (zn s.sp) ∧
    RunsTo .txs s { Instr.txs.done s with sp := s.x } []

/-! ## Stack -/

/-- R126, R127: the pushed byte goes to 0x0100 + SP, SP is decremented modulo 256, P itself stays; PHP's copy has bits
4 and 5 set. -/
def Obligations.PushesStoreAtSp : Prop :=
  EncodedBy .pha [(0x48#8, .imp, 1, 3)] ∧
  EncodedBy .php [(0x08#8, .imp, 1, 3)] ∧
  ∀ s : State, s.connected = true →
    RunsTo .pha s { Instr.pha.done s with
      mem := (s.write (joinBytes 0x01#8 s.sp) s.a).mem, sp := s.sp - 1 } [] ∧
    RunsTo .php s { Instr.php.done s with
      mem := (s.write (joinBytes 0x01#8 s.sp) (s.p ||| 0x30#8)).mem, sp := s.sp - 1 } []

/-- R128, R129: the pulled byte is the one at 0x0100 + (SP + 1 mod 256); PLA sets Z and N, PLP loads P with B = 0 and
U = 1. -/
def Obligations.PullsReadAboveSp : Prop :=
  EncodedBy .pla [(0x68#8, .imp, 1, 4)] ∧
  EncodedBy .plp [(0x28#8, .imp, 1, 4)] ∧
  ∀ s : State, s.connected = true →
    let v := s.read (joinBytes 0x01#8 (s.sp + 1))
    RunsTo .pla s { Instr.pla.done s with a := v, sp := s.sp + 1 } (zn v) ∧
    RunsTo .plp s { Instr.plp.done s with sp := s.sp + 1 }
      [(.c, v.getLsbD 0), (.z, v.getLsbD 1), (.i, v.getLsbD 2), (.d, v.getLsbD 3), (.b, false), (.u, true),
       (.v, v.getLsbD 6), (.n, v.getLsbD 7)]

/-! ## Arithmetic -/

/-- R132, R133: the sum is exact, then reduced; C is the carry out, V is set exactly when the two inputs of the adder
have the same sign bit and the result has the other; SBC adds m ^ 0xFF. D plays no part. -/
def Obligations.AdcAndSbcAddExactly : Prop :=
  EncodedBy .adc [(0x69#8, .imm, 2, 2), (0x65#8, .zp0, 2, 3), (0x75#8, .zpx, 2, 4), (0x6D#8, .abs, 3, 4),
    (0x7D#8, .abx, 3, 4), (0x79#8, .aby, 3, 4), (0x61#8, .izx, 2, 6), (0x71#8, .izy, 2, 5)] ∧
  EncodedBy .sbc [(0xE9#8, .imm, 2, 2), (0xE5#8, .zp0, 2, 3), (0xF5#8, .zpx, 2, 4), (0xED#8, .abs, 3, 4),
    (0xFD#8, .abx, 3, 4), (0xF9#8, .aby, 3, 4), (0xE1#8, .izx, 2, 6), (0xF1#8, .izy, 2, 5)] ∧
  ∀ (i : Instr) (s : State), s.connected = true → ∀ n : Byte,
    (i.mnemonic = .adc ∧ n = i.source s ∨ i.mnemonic = .sbc ∧ n = i.source s ^^^ 0xFF#8) →
    let t := s.a.toNat + n.toNat + (s.getFlag .c).toNat
    let r := BitVec.ofNat 8 (t % 256)
    RunsTo i s { i.done s with a := r }
      ([(.c, decide (t > 255)), (.v, (s.a.msb == n.msb) && (r.msb != s.a.msb))] ++ zn r)

/-- R131, R133: on integers. After ADC, C says that the unsigned sum does not fit in 8 bits and V that the signed sum
does not; after SBC, A is A - m - (1 - C) modulo 256, C says that this difference is not negative and V that the
signed difference does not fit. -/
def Obligations.CarryAndOverflowOnIntegers : Prop :=
  ∀ (i : Instr) (s t : State), s.connected = true → exec i s = .next t →
    let m := i.source s
    let c : Int := (s.getFlag .c).toNat
    let fits (v : Int) : Prop := -128 ≤ v ∧ v ≤ 127
    (i.mnemonic = .adc →
      (t.a.toNat : Int) = (s.a.toNat + m.toNat + c) % 256 ∧
      (t.getFlag .c = true ↔ (s.a.toNat : Int) + m.toNat + c > 255) ∧
      (t.getFlag .v = true ↔ ¬ fits (s.a.toInt + m.toInt + c))) ∧
    (i.mnemonic = .sbc →
      (t.a.toNat : Int) = (s.a.toNat - m.toNat - (1 - c)) % 256 ∧
      (t.getFlag .c = true ↔ (s.a.toNat : Int) - m.toNat - (1 - c) ≥ 0) ∧
      (t.getFlag .v = true ↔ ¬ fits (s.a.toInt - m.toInt - (1 - c))))

/-- R134 to R137: C is the unsigned comparison, Z equality, N bit 7 of the difference; no register, V unchanged. -/
def Obligations.ComparesSetCarryZeroNegative : Prop :=
  EncodedBy .cmp [(0xC9#8, .imm, 2, 2), (0xC5#8, .zp0, 2, 3), (0xD5#8, .zpx, 2, 4), (0xCD#8, .abs, 3, 4),
    (0xDD#8, .abx, 3, 4), (0xD9#8, .aby, 3, 4), (0xC1#8, .izx, 2, 6), (0xD1#8, .izy, 2, 5)] ∧
  EncodedBy .cpx [(0xE0#8, .imm, 2, 2), (0xE4#8, .zp0, 2, 3), (0xEC#8, .abs, 3, 4)] ∧
  EncodedBy .cpy [(0xC0#8, .imm, 2, 2), (0xC4#8, .zp0, 2, 3), (0xCC#8, .abs, 3, 4)] ∧
  ∀ (i : Instr) (s : State), s.connected = true → ∀ r : Byte,
    (i.mnemonic = .cmp ∧ r = s.a ∨ i.mnemonic = .cpx ∧ r = s.x ∨ i.mnemonic = .cpy ∧ r = s.y) →
    RunsTo i s (i.done s)
      [(.c, decide (r.toNat ≥ (i.source s).toNat)), (.z, decide (r.toNat = (i.source s).toNat)),
       (.n, (r - i.source s).getLsbD 7)]

/-- R138, R139: read-modify-write of one byte, modulo 256; C and V unchanged. -/
def Obligations.IncAndDecRewriteMemory : Prop :=
  EncodedBy .inc [(0xE6#8, .zp0, 2, 5), (0xF6#8, .zpx, 2, 6), (0xEE#8, .abs, 3, 6), (0xFE#8, .abx, 3, 7)] ∧
  EncodedBy .dec [(0xC6#8, .zp0, 2, 5), (0xD6#8, .zpx, 2, 6), (0xCE#8, .abs, 3, 6), (0xDE#8, .abx, 3, 7)] ∧
  ∀ (i : Instr) (s : State), s.connected = true → ∀ v : Byte,
    (i.mnemonic = .inc ∧ v = BitVec.ofNat 8 ((i.source s).toNat + 1) ∨
     i.mnemonic = .dec ∧ v = BitVec.ofInt 8 ((i.source s).toNat - 1)) →
    RunsTo i s { i.done s with mem := (s.write (i.target s) v).mem } (zn v)

/-- R140 to R143. -/
def Obligations.IndexRegistersStepByOne : Prop :=
  EncodedBy .inx [(0xE8#8, .imp, 1, 2)] ∧
  EncodedBy .iny [(0xC8#8, .imp, 1, 2)] ∧
  EncodedBy .dex [(0xCA#8, .imp, 1, 2)] ∧
  EncodedBy .dey [(0x88#8, .imp, 1, 2)] ∧
  ∀ s : State, s.connected = true →
    RunsTo .inx s { Instr.inx.done s with x := BitVec.ofNat 8 (s.x.toNat + 1) } (zn (BitVec.ofNat 8 (s.x.toNat + 1))) ∧
    RunsTo .iny s { Instr.iny.done s with y := BitVec.ofNat 8 (s.y.toNat + 1) } (zn (BitVec.ofNat 8 (s.y.toNat + 1))) ∧
    RunsTo .dex s { Instr.dex.done s with x := BitVec.ofInt 8 (s.x.toNat - 1) } (zn (BitVec.ofInt 8 (s.x.toNat - 1))) ∧
    RunsTo .dey s { Instr.dey.done s with y := BitVec.ofInt 8 (s.y.toNat - 1) } (zn (BitVec.ofInt 8 (s.y.toNat - 1)))

/-! ## Logic and shifts -/

/-- R146, R147, R148. -/
def Obligations.LogicWorksBitByBit : Prop :=
  EncodedBy .and [(0x29#8, .imm, 2, 2), (0x25#8, .zp0, 2, 3), (0x35#8, .zpx, 2, 4), (0x2D#8, .abs, 3, 4),
    (0x3D#8, .abx, 3, 4), (0x39#8, .aby, 3, 4), (0x21#8, .izx, 2, 6), (0x31#8, .izy, 2, 5)] ∧
  EncodedBy .eor [(0x49#8, .imm, 2, 2), (0x45#8, .zp0, 2, 3), (0x55#8, .zpx, 2, 4), (0x4D#8, .abs, 3, 4),
    (0x5D#8, .abx, 3, 4), (0x59#8, .aby, 3, 4), (0x41#8, .izx, 2, 6), (0x51#8, .izy, 2, 5)] ∧
  EncodedBy .ora [(0x09#8, .imm, 2, 2), (0x05#8, .zp0, 2, 3), (0x15#8, .zpx, 2, 4), (0x0D#8, .abs, 3, 4),
    (0x1D#8, .abx, 3, 4), (0x19#8, .aby, 3, 4), (0x01#8, .izx, 2, 6), (0x11#8, .izy, 2, 5)] ∧
  ∀ (i : Instr) (s : State), s.connected = true → ∀ v : Byte,
    (i.mnemonic = .and ∧ (∀ k, v.getLsbD k = (s.a.getLsbD k && (i.source s).getLsbD k)) ∨
     i.mnemonic = .eor ∧ (∀ k, v.getLsbD k = Bool.xor (s.a.getLsbD k) ((i.source s).getLsbD k)) ∨
     i.mnemonic = .ora ∧ (∀ k, v.getLsbD k = (s.a.getLsbD k || (i.source s).getLsbD k))) →
    RunsTo i s { i.done s with a := v } (zn v)

/-- R149: Z from A & m, V and N copied from bits 6 and 7 of the memory operand; A and memory unchanged. -/
def Obligations.BitCopiesTheTopBits : Prop :=
  EncodedBy .bit [(0x24#8, .zp0, 2, 3), (0x2C#8, .abs, 3, 4)] ∧
  ∀ (i : Instr) (s : State), s.connected = true → i.mnemonic = .bit →
    RunsTo i s (i.done s)
      [(.z, (s.a &&& i.source s) == 0x00#8),
       (.v, (i.source s).getLsbD 6), (.n, (i.source s).getLsbD 7)]

/-- A shift or rotate on numbers (R150 to R153): the result and the carry out of m with carry in c. -/
def shiftOnNumbers (op : Mnemonic) (m c : Nat) : Option (Nat × Nat) :=
  match op with
  | .asl => some (m * 2 % 256, m / 128)
  | .lsr => some (m / 2, m % 2)
  | .rol => some ((m * 2 + c) % 256, m / 128)
  | .ror => some (m / 2 + c * 128, m % 2)
  | _ => none

/-- R150 to R153: one bit per instruction, through C; the accumulator forms write A, the memory forms rewrite one byte;
flags C, Z, N. -/
def Obligations.ShiftsAndRotatesMoveOneBit : Prop :=
  EncodedBy .asl [(0x0A#8, .acc, 1, 2), (0x06#8, .zp0, 2, 5), (0x16#8, .zpx, 2, 6), (0x0E#8, .abs, 3, 6),
    (0x1E#8, .abx, 3, 7)] ∧
  EncodedBy .lsr [(0x4A#8, .acc, 1, 2), (0x46#8, .zp0, 2, 5), (0x56#8, .zpx, 2, 6), (0x4E#8, .abs, 3, 6),
    (0x5E#8, .abx, 3, 7)] ∧
  EncodedBy .rol [(0x2A#8, .acc, 1, 2), (0x26#8, .zp0, 2, 5), (0x36#8, .zpx, 2, 6), (0x2E#8, .abs, 3, 6),
    (0x3E#8, .abx, 3, 7)] ∧
  EncodedBy .ror [(0x6A#8, .acc, 1, 2), (0x66#8, .zp0, 2, 5), (0x76#8, .zpx, 2, 6), (0x6E#8, .abs, 3, 6),
    (0x7E#8, .abx, 3, 7)] ∧
  ∀ (i : Instr) (s : State), s.connected = true → ∀ v carry : Nat,
    shiftOnNumbers i.mnemonic (i.source s).toNat (s.getFlag .c).toNat = some (v, carry) →
    let r := BitVec.ofNat 8 v
    RunsTo i s
      (if i.operand = .acc then { i.done s with a := r } else { i.done s with mem := (s.write (i.target s) r).mem })
      ((.c, carry == 1) :: zn r)

/-! ## Control flow -/

/-- R161, R162: JSR pushes the address of its last byte, high byte first, and goes to its operand; RTS pulls the low byte,
then the high byte, and continues at the pulled address plus 1, modulo 65536. -/
def Obligations.JsrAndRtsUseTheStackedAddress : Prop :=
  EncodedBy .jsr [(0x20#8, .abs, 3, 6)] ∧
  EncodedBy .rts [(0x60#8, .imp, 1, 6)] ∧
  ∀ s : State, s.connected = true →
    (∀ addr : Addr, RunsTo (.jsr addr) s
      { (Instr.jsr addr).done s with
        mem := ((s.write (joinBytes 0x01#8 s.sp) (hiByte (s.pc + 2))).write (joinBytes 0x01#8 (s.sp - 1))
          (loByte (s.pc + 2))).mem
        sp := s.sp - 2, pc := addr } []) ∧
    RunsTo .rts s
      { Instr.rts.done s with
        pc := joinBytes (s.read (joinBytes 0x01#8 (s.sp + 2))) (s.read (joinBytes 0x01#8 (s.sp + 1))) + 1
        sp := s.sp + 2 } []

/-- R161, R162: an RTS that finds the stack as a JSR left it continues after the JSR with SP restored, at every SP. -/
def Obligations.RtsReturnsFromJsr : Prop :=
  ∀ (addr : Addr) (s t u w : State), s.connected = true → Memory.wf s.mem = true →
    exec (.jsr addr) s = .next t → u.connected = true → u.mem = t.mem → u.sp = t.sp → exec .rts u = .next w →
    w.pc = s.pc + 3 ∧ w.sp = s.sp ∧ w.mem = t.mem

/-- R163 to R171: a branch whose condition does not hold falls through in its base count; one whose condition holds
goes to PC after the branch plus the signed displacement, modulo 65536, in 1 cycle more, or 2 more to another page. -/
def Obligations.BranchesFollowTheirFlag : Prop :=
  EncodedBy .bcc [(0x90#8, .rel, 2, 2)] ∧
  EncodedBy .bcs [(0xB0#8, .rel, 2, 2)] ∧
  EncodedBy .beq [(0xF0#8, .rel, 2, 2)] ∧
  EncodedBy .bmi [(0x30#8, .rel, 2, 2)] ∧
  EncodedBy .bne [(0xD0#8, .rel, 2, 2)] ∧
  EncodedBy .bpl [(0x10#8, .rel, 2, 2)] ∧
  EncodedBy .bvc [(0x50#8, .rel, 2, 2)] ∧
  EncodedBy .bvs [(0x70#8, .rel, 2, 2)] ∧
  ∀ (i : Instr) (s : State) (d : Byte) (f : Flag) (b : Bool), s.connected = true → i.operand = .rel d →
    branchCondition i.mnemonic = some (f, b) →
    (s.getFlag f ≠ b → RunsTo i s { s.visible with pc := s.pc + 2, cycles := 2 } []) ∧
    (s.getFlag f = b → RunsTo i s
      { s.visible with
        pc := branchTargetOf s d
        cycles := if (branchTargetOf s d).toNat / 256 = (s.pc + 2).toNat / 256 then 3 else 4 } [])

/-- R172, R84: JMP goes to its operand, JMP indirect to the pointer there, whose high byte is read in the same page. -/
def Obligations.JmpGoesToItsAddress : Prop :=
  EncodedBy .jmp [(0x4C#8, .abs, 3, 3), (0x6C#8, .ind, 3, 5)] ∧
  ∀ (addr : Addr) (s : State), s.connected = true →
    RunsTo (.jmpAbs addr) s { s.visible with pc := addr, cycles := 3 } [] ∧
    RunsTo (.jmpInd addr) s
      { s.visible with
        pc := joinBytes (s.read (joinBytes (hiByte addr) (loByte addr + 1))) (s.read addr), cycles := 5 } []

/-! ## Flags, system, undocumented -/

/-- R176 to R182: each sets or clears its one flag. -/
def Obligations.FlagInstructionsWriteOneFlag : Prop :=
  EncodedBy .clc [(0x18#8, .imp, 1, 2)] ∧
  EncodedBy .cld [(0xD8#8, .imp, 1, 2)] ∧
  EncodedBy .cli [(0x58#8, .imp, 1, 2)] ∧
  EncodedBy .clv [(0xB8#8, .imp, 1, 2)] ∧
  EncodedBy .sec [(0x38#8, .imp, 1, 2)] ∧
  EncodedBy .sed [(0xF8#8, .imp, 1, 2)] ∧
  EncodedBy .sei [(0x78#8, .imp, 1, 2)] ∧
  ∀ s : State, s.connected = true →
    RunsTo .clc s (Instr.clc.done s) [(.c, false)] ∧ RunsTo .cld s (Instr.cld.done s) [(.d, false)] ∧
    RunsTo .cli s (Instr.cli.done s) [(.i, false)] ∧ RunsTo .clv s (Instr.clv.done s) [(.v, false)] ∧
    RunsTo .sec s (Instr.sec.done s) [(.c, true)] ∧ RunsTo .sed s (Instr.sed.done s) [(.d, true)] ∧
    RunsTo .sei s (Instr.sei.done s) [(.i, true)]

/-- R183, R196: BRK skips its padding byte, pushes PC high, PC low and P with B and U set, sets I, and continues at the
vector at 0xFFFE; P's other bits and every other register stay; I does not mask it. -/
def Obligations.BrkEntersThroughItsVector : Prop :=
  EncodedBy .brk [(0x00#8, .imp, 1, 7)] ∧
  ∀ s : State, s.connected = true →
    RunsTo .brk s
      { s.visible with
        mem := (((s.write (joinBytes 0x01#8 s.sp) (hiByte (s.pc + 2))).write (joinBytes 0x01#8 (s.sp - 1))
          (loByte (s.pc + 2))).write (joinBytes 0x01#8 (s.sp - 2)) (s.p ||| 0x30#8)).mem
        sp := s.sp - 3, pc := joinBytes (s.read 0xFFFF#16) (s.read 0xFFFE#16), cycles := 7 } [(.i, true)]

/-- R184, R197: P is pulled with B = 0 and U = 1, then PC, low byte first, with nothing added. -/
def Obligations.RtiRestoresStatusAndPc : Prop :=
  EncodedBy .rti [(0x40#8, .imp, 1, 6)] ∧
  ∀ s : State, s.connected = true →
    let v := s.read (joinBytes 0x01#8 (s.sp + 1))
    RunsTo .rti s
      { s.visible with
        pc := joinBytes (s.read (joinBytes 0x01#8 (s.sp + 3))) (s.read (joinBytes 0x01#8 (s.sp + 2)))
        sp := s.sp + 3, cycles := 6 }
      [(.c, v.getLsbD 0), (.z, v.getLsbD 1), (.i, v.getLsbD 2), (.d, v.getLsbD 3), (.b, false), (.u, true),
       (.v, v.getLsbD 6), (.n, v.getLsbD 7)]

/-- R183, R184, R197: an RTI that finds the stack as a BRK left it continues at the BRK's address plus 2 with SP and
every flag but B and U restored. -/
def Obligations.RtiReturnsFromBrk : Prop :=
  ∀ s t u w : State, s.connected = true → Memory.wf s.mem = true →
    exec .brk s = .next t → u.connected = true → u.mem = t.mem → u.sp = t.sp → exec .rti u = .next w →
    w.pc = s.pc + 2 ∧ w.sp = s.sp ∧ w.getFlag .b = false ∧ w.getFlag .u = true ∧
    ∀ f, f ≠ .b → f ≠ .u → w.getFlag f = s.getFlag f

/-- R185: NOP changes PC and the counter only. -/
def Obligations.NopOnlyAdvancesPc : Prop :=
  EncodedBy .nop [(0xEA#8, .imp, 1, 2)] ∧
  ∀ s : State, s.connected = true → RunsTo .nop s { s.visible with pc := s.pc + 1, cycles := 2 } []

/-- R186 under `Refuse`: the tick that fetches an undocumented opcode discards its writes and marks the refusal, and no
later tick has a step (log entry 2). For an ill-formed `undocumented op` the first clause is the model's choice (log
entry 17). -/
def Obligations.UndocumentedIsRefused : Prop :=
  ∀ (op : Byte) (s : State), s.params.illegalOpcodePolicy = .refuse → s.connected = true →
    exec (.undocumented op) s = .next { s with refused := some ⟨op, s.pc⟩ } ∧
    (op ∈ undocumentedOpcodes → s.FetchesNext → s.read s.pc = op →
      step s = .next { s with refused := some ⟨op, s.pc⟩ } ∧
      step { s with refused := some ⟨op, s.pc⟩ } = .refused (.illegalOpcode op s.pc))

/-- R186 under `Placeholder`: PC passes the one byte, the opcode is latched, the counter is set, and nothing else
changes; the decrement follows, so that a cost of 0 takes one tick (R97). For an ill-formed `undocumented op` with a
documented op the first clause is the model's choice (log entry 17). -/
def Obligations.UndocumentedAsPlaceholder : Prop :=
  ∀ (op : Byte) (s : State) (cost : Vector Byte 256),
    s.params.illegalOpcodePolicy = .placeholder cost → s.connected = true →
    exec (.undocumented op) s = .next { s with pc := s.pc + 1, opcode := op, cycles := cost.get op.toFin } ∧
    (op ∈ undocumentedOpcodes → s.FetchesNext → s.read s.pc = op →
      step s = .next { s with
        pc := s.pc + 1, opcode := op, cycles := BitVec.ofNat 8 ((cost.get op.toFin).toNat - 1) })

/-! ## Exceptions and interrupts -/

/-- R202, R204: at an Idle tick with interrupt lines, a pending NMI is taken through 0xFFFA whatever I is, otherwise a
raised IRQ line with I clear through 0xFFFE; PC and P with B = 0 and U = 1 are pushed, I is set, and after the tick 6
cycles remain. -/
def Obligations.InterruptEntrySavesAndVectors : Prop :=
  ∀ (s : State) (vector : Addr), s.Running → s.cycles = 0 → s.connected = true → s.params.hasInterruptLines = true →
    (s.nmiPending = true ∧ vector = 0xFFFA#16 ∨
     s.nmiPending = false ∧ s.irqLine = true ∧ s.getFlag .i = false ∧ vector = 0xFFFE#16) →
    ∃ t, step s = .next t ∧
      t.visible = { s.visible with
        mem := (((s.write (joinBytes 0x01#8 s.sp) (hiByte s.pc)).write (joinBytes 0x01#8 (s.sp - 1))
          (loByte s.pc)).write (joinBytes 0x01#8 (s.sp - 2)) ((s.p &&& 0xEF#8) ||| 0x20#8)).mem
        sp := s.sp - 3, pc := joinBytes (s.read (vector + 1)) (s.read vector), cycles := 6, p := t.p
        nmiPending := false } ∧
      ∀ f, t.getFlag f = if f = .i then true else s.getFlag f

/-- R200, R204: an Idle tick fetches when there are no interrupt lines, and with lines when no NMI is pending and the
IRQ line is low or masked by I. -/
def Obligations.MaskedOrAbsentInterruptsFetch : Prop :=
  ∀ s : State, s.Running → s.cycles = 0 →
    (s.params.hasInterruptLines = false ∨
      s.nmiPending = false ∧ (s.irqLine = false ∨ s.getFlag .i = true)) →
    step s = endTick (exec (fetchInstr s) s)

/-- R192: a tick of the unconnected core that needs the bus writes nothing and records the fault with its PC (log
entry 10); no later tick has a step (log entry 2). That a tick which would take an interrupt does the same is the
model's choice (log entry 3). -/
def Obligations.UnconnectedTickRecordsTheFault : Prop :=
  ∀ s : State, s.Running → s.cycles = 0 → s.connected = false →
    step s = .next { s with fault := some (.unconnected s.pc) } ∧
    step { s with fault := some (.unconnected s.pc) } = .fault (.unconnected s.pc)

/-- R53, R54, R190, R191: without the connection the memory port answers its error, with the address and the value, for
all addresses; with it a read answers the byte and changes nothing, and a write changes exactly that byte and nothing
else. -/
def Obligations.MemoryPortNeedsTheConnection : Prop :=
  ∀ (s : State) (addr : Addr) (v : Byte),
    (s.connected = false →
      s.memRead addr = .error (.invalidRead addr) ∧ s.memWrite addr v = .error (.invalidWrite addr v)) ∧
    (s.connected = true → s.memRead addr = .ok (s.read addr) ∧
      ∃ t, s.memWrite addr v = .ok t ∧ t = { s with mem := t.mem } ∧
        (∀ b, b ≠ addr → t.read b = s.read b) ∧ (Memory.wf s.mem = true → t.read addr = v))

/-- R195: which marks a tick can record: a fault only without the connection, a refusal only for an undocumented
opcode at PC under `Refuse`. No instruction raises anything else. The model's choices in it: that the marking tick
answers a next state (log entry 2), that an unconnected tick which would take an interrupt changes the fault mark only
(log entry 3); the recorded PC is log entry 10. -/
def Obligations.MarksAreRecordedForTheirCauseOnly : Prop :=
  ∀ s t : State, step s = .next t →
    (t.fault ≠ none → s.connected = false ∧ t = { s with fault := some (.unconnected s.pc) }) ∧
    (t.refused ≠ none → s.params.illegalOpcodePolicy = .refuse ∧ s.read s.pc ∈ undocumentedOpcodes ∧
      t = { s with refused := some ⟨s.read s.pc, s.pc⟩ })

/-! ## Whole-machine rules -/

/-- The bytes an instruction stores to (R114 to R116, R126, R127, R138, R139, R150 to R153, R161, R183). -/
def storesOf (i : Instr) (s : State) : List Addr :=
  match i.mnemonic with
  | .sta | .stx | .sty | .inc | .dec => [i.target s]
  | .asl | .lsr | .rol | .ror => if i.operand = .acc then [] else [i.target s]
  | .pha | .php => [joinBytes 0x01#8 s.sp]
  | .jsr => [joinBytes 0x01#8 s.sp, joinBytes 0x01#8 (s.sp - 1)]
  | .brk => [joinBytes 0x01#8 s.sp, joinBytes 0x01#8 (s.sp - 1), joinBytes 0x01#8 (s.sp - 2)]
  | _ => []

/-- R54, R59: the memory frame of every instruction: a byte it does not store to reads as before. -/
def Obligations.OnlyStoredBytesChange : Prop :=
  ∀ (i : Instr) (s t : State), exec i s = .next t → ∀ addr, addr ∉ storesOf i s → t.read addr = s.read addr

/-- The instructions that may write a flag (R27). -/
def flagWriters : Flag → List Mnemonic
  | .c => [.adc, .sbc, .cmp, .cpx, .cpy, .asl, .lsr, .rol, .ror, .clc, .sec, .plp, .rti]
  | .z | .n => [.adc, .sbc, .and, .eor, .ora, .bit, .cmp, .cpx, .cpy, .inc, .dec, .inx, .iny, .dex, .dey, .lda, .ldx,
      .ldy, .tax, .tay, .txa, .tya, .tsx, .pla, .asl, .lsr, .rol, .ror, .plp, .rti]
  | .i => [.sei, .cli, .brk, .plp, .rti]
  | .d => [.sed, .cld, .plp, .rti]
  | .b | .u => [.plp, .rti]
  | .v => [.adc, .sbc, .bit, .clv, .plp, .rti]

/-- R27: every instruction not listed for a flag leaves it unchanged. -/
def Obligations.FlagsChangeOnlyByTheirWriters : Prop :=
  ∀ (i : Instr) (s t : State) (f : Flag), exec i s = .next t → t.getFlag f ≠ s.getFlag f → i.mnemonic ∈ flagWriters f

/-- R21 to R24: the writers of A, X, Y and SP. -/
def Obligations.RegistersChangeOnlyByTheirWriters : Prop :=
  ∀ (i : Instr) (s t : State), exec i s = .next t →
    (t.a ≠ s.a → i.mnemonic ∈ [Mnemonic.lda, .txa, .tya, .pla, .adc, .sbc, .and, .eor, .ora] ∨
      i.mnemonic ∈ [Mnemonic.asl, .lsr, .rol, .ror] ∧ i.operand = .acc) ∧
    (t.x ≠ s.x → i.mnemonic ∈ [Mnemonic.ldx, .tax, .tsx, .inx, .dex]) ∧
    (t.y ≠ s.y → i.mnemonic ∈ [Mnemonic.ldy, .tay, .iny, .dey]) ∧
    (t.sp ≠ s.sp → i.mnemonic ∈ [Mnemonic.txs, .pha, .php, .pla, .plp, .jsr, .rts, .brk, .rti])

/-- R89: only a control transfer writes PC after the resolver: every other documented instruction leaves it exactly
past its own bytes, modulo 65536. -/
def Obligations.PcAdvancesByTheLength : Prop :=
  ∀ (i : Instr) (s t : State), s.connected = true → exec i s = .next t →
    i.mnemonic ∉ [Mnemonic.jsr, .rts, .bcc, .bcs, .beq, .bmi, .bne, .bpl, .bvc, .bvs, .jmp, .brk, .rti, .undocumented] →
    t.pc.toNat = (s.pc.toNat + (encode i).length) % 65536

/-- R33, R36, R201: a tick never changes the bus connection, the parameters or the interrupt lines, and changes
`nmi_pending` only by taking the NMI: at an Idle tick of the connected core, which is the NMI's entry, and to 0. -/
def Obligations.TicksLeaveTheHostsSideAlone : Prop :=
  ∀ s t : State, step s = .next t →
    t.connected = s.connected ∧ t.params = s.params ∧ t.irqLine = s.irqLine ∧ t.nmiLine = s.nmiLine ∧
    (t.nmiPending ≠ s.nmiPending →
      s.cycles = 0 ∧ s.connected = true ∧ pendingInterrupt s = some 0xFFFA#16 ∧ t.nmiPending = false ∧
      t = (interruptEntry 0xFFFA#16 s).countDown)

/-- R34: scratch fields carry nothing across ticks: two states that agree on everything but the scratch fields step to
states that agree likewise, or stop alike. -/
def Obligations.ScratchFieldsCarryNothing : Prop :=
  ∀ s s' : State, s.visible = s'.visible →
    (∃ t t', step s = .next t ∧ step s' = .next t' ∧ t.visible = t'.visible) ∨
    (∃ f, step s = .fault f ∧ step s' = .fault f) ∨
    (∃ r, step s = .refused r ∧ step s' = .refused r)

/-- R131: D has no effect on any result: two states that differ in D alone give, by every instruction but
those that push P (PHP and BRK), the same registers, memory, counter and flags, D apart. -/
def Obligations.DecimalFlagHasNoEffect : Prop :=
  ∀ (i : Instr) (s t t' : State) (d : Bool),
    i.mnemonic ∉ [Mnemonic.php, .brk] →
    exec i s = .next t → exec i (s.setFlag .d d) = .next t' →
    t'.visible = { t.visible with p := t'.p } ∧ ∀ f, f ≠ .d → t'.getFlag f = t.getFlag f

/-- R232: results do not depend on timing: the counter an instruction finds has no effect on anything a documented
instruction leaves. -/
def Obligations.ResultsDoNotDependOnTheCounter : Prop :=
  ∀ (i : Instr) (s : State) (n : Byte), i.mnemonic ≠ .undocumented → s.connected = true →
    exec i { s with cycles := n } = exec i s

/-! ## Invariants -/

/-- The invariant holds at reset. -/
def Obligations.ResetMeetsTheInvariant : Prop := State.reset.Inv ∧ ∀ params, (State.powerOn params).Inv

/-- R28, R35, R50, R51, R201: every tick keeps the invariant, from every state that meets it. -/
def Obligations.TickKeepsTheInvariant : Prop := ∀ s t : State, s.Inv → step s = .next t → t.Inv

/-- R29: the instruction set keeps B at 0. -/
def Obligations.TickKeepsBreakClear : Prop :=
  ∀ s t : State, s.getFlag .b = false → step s = .next t → t.getFlag .b = false

/-- R31: a documented opcode and an interrupt entry write at most 8 to the counter, so that between ticks it stays at
most 7 unless a placeholder sets it. -/
def Obligations.CounterStaysSmall : Prop :=
  (∀ (i : Instr) (s t : State), i.mnemonic ≠ .undocumented → s.connected = true → exec i s = .next t →
    1 ≤ t.cycles.toNat ∧ t.cycles.toNat ≤ 8) ∧
  (∀ s t : State, s.params.illegalOpcodePolicy = .refuse → s.cycles.toNat ≤ 7 → step s = .next t → t.cycles.toNat ≤ 7)

/-- R206: every move of the host but clearing U keeps the invariant, and so does the connect of R194 as the model
reads it (DEDUCED, log entry 16). -/
def Obligations.HostMovesKeepTheInvariant : Prop :=
  ∀ s : State, s.Inv →
    (∀ move : HostMove, move ≠ .setFlag .u false → (s.hostMove move).Inv) ∧
    ∀ hasReference, (s.connect hasReference).1.Inv

/-! ## Reset and the host -/

/-- R220: the power-on state, for every choice of the parameters, and at the defaults of R7. -/
def Obligations.PowerOnValues : Prop :=
  (∀ params, construct true params = .ok (State.powerOn params) ∧
    construct false params = .error .constructionError ∧
    (let s := State.powerOn params
     s.a = 0 ∧ s.x = 0 ∧ s.y = 0 ∧ s.sp = 0 ∧ s.p = 0x20#8 ∧ s.cycles = 0 ∧ s.opcode = 0 ∧ s.fetched = 0 ∧
     s.addrAbs = 0 ∧ s.addrRel = 0 ∧ s.connected = true ∧ s.fault = none ∧ s.refused = none ∧ s.irqLine = false ∧
     s.nmiLine = false ∧ s.nmiPending = false ∧ (∀ addr, s.read addr = 0x00#8) ∧
     (∀ pc, params.resetPcSource = .constant pc → s.pc = pc) ∧
     (params.resetPcSource = .vector → s.pc = s.read16 0xFFFC#16))) ∧
  State.reset = State.powerOn ⟨.constant 0x0000#16, .refuse, false⟩

/-- R221: the host's reset writes the power-on registers, P, counter, scratch fields and PC from its source as memory
is now; memory, `connected` and the marks stay. That the vector is read without the bus connection too is the model's
choice (log entry 19). -/
def Obligations.HostResetRestoresRegisters : Prop :=
  ∀ s : State,
    let t := s.hostMove .reset
    t.a = 0 ∧ t.x = 0 ∧ t.y = 0 ∧ t.sp = 0 ∧ t.p = 0x20#8 ∧ t.cycles = 0 ∧ t.opcode = 0 ∧ t.fetched = 0 ∧
    t.addrAbs = 0 ∧ t.addrRel = 0 ∧ t.mem = s.mem ∧
    t.connected = s.connected ∧ t.fault = s.fault ∧ t.refused = s.refused ∧
    (∀ pc, s.params.resetPcSource = .constant pc → t.pc = pc) ∧
    (s.params.resetPcSource = .vector → t.pc = joinBytes (s.read 0xFFFD#16) (s.read 0xFFFC#16))

/-- R206: no move of the host but reset writes A, X, Y, SP, PC or the counter, and only SetFlag and reset write P. R194: a
connect without a reference answers its error and changes nothing. That a connect with one sets `connected` to 1, with no
error, and writes nothing else is the model's reading of R33 and R194 (DEDUCED, log entry 16). -/
def Obligations.HostWritesNoOtherRegister : Prop :=
  (∀ (s : State) (move : HostMove), move ≠ .reset →
    (s.hostMove move).a = s.a ∧ (s.hostMove move).x = s.x ∧ (s.hostMove move).y = s.y ∧
    (s.hostMove move).sp = s.sp ∧ (s.hostMove move).pc = s.pc ∧ (s.hostMove move).cycles = s.cycles ∧
    ((∀ f b, move ≠ .setFlag f b) → (s.hostMove move).p = s.p)) ∧
  ∀ s : State, s.connect true = ({ s with connected := true }, none) ∧ s.connect false = (s, some .unknown)

/-- R30: the flag primitives round-trip for every flag and leave all other flags unchanged. -/
def Obligations.FlagPrimitivesRoundTrip : Prop :=
  ∀ (s : State) (f : Flag) (b : Bool),
    (s.setFlag f b).getFlag f = b ∧ ∀ k, k < 8 → k ≠ f.pos → (s.setFlag f b).p.getLsbD k = s.p.getLsbD k

/-- R201: with interrupt lines, a rise of the NMI line sets `nmi_pending` and nothing else does (log entry 8); the IRQ
line is not latched. Without lines neither can be driven (R206, log entry 14). -/
def Obligations.LinesAreDrivenByTheHost : Prop :=
  ∀ (s : State) (level : Bool),
    (s.params.hasInterruptLines = true →
      (s.driveIrq level).irqLine = level ∧ (s.driveIrq level).nmiPending = s.nmiPending ∧
      (s.driveNmi level).nmiLine = level ∧
      ((s.driveNmi level).nmiPending = true ↔ s.nmiPending = true ∨ s.nmiLine = false ∧ level = true)) ∧
    (s.params.hasInterruptLines = false → s.driveIrq level = s ∧ s.driveNmi level = s)
end

