-- ==== Sys2Proof/Laws/Flags.lean ====
section
/-! SUPPORT. Laws of the flags: one lemma for each way P is written. -/

namespace Sys2Proof.Machine

theorem Flag.mask_bit (f g : Flag) : f.mask.getLsbD g.pos = decide (g = f) := by
  cases f <;> cases g <;> rfl

theorem Flag.pos_lt (f : Flag) : f.pos < 8 := by cases f <;> decide

/-- The round trip of R30, and that the other flags stay. -/
@[simp] theorem statusFlag_statusWith (p : Byte) (f g : Flag) (b : Bool) :
    statusFlag (statusWith p f b) g = if g = f then b else statusFlag p g := by
  unfold statusFlag statusWith
  cases b
  · simp only [Bool.false_eq_true, if_false, BitVec.getLsbD_and, BitVec.getLsbD_not, Flag.mask_bit, Flag.pos_lt g]
    by_cases h : g = f <;> simp [h]
  · simp only [if_true, BitVec.getLsbD_or, Flag.mask_bit]
    by_cases h : g = f <;> simp [h]

@[simp] theorem State.getFlag_setFlag (s : State) (f g : Flag) (b : Bool) :
    (s.setFlag f b).getFlag g = if g = f then b else s.getFlag g :=
  statusFlag_statusWith s.p f g b

@[simp] theorem statusFlag_pulledStatus (v : Byte) (f : Flag) :
    statusFlag (pulledStatus v) f = match f with | .b => false | .u => true | g => statusFlag v g := by
  revert v
  cases f <;> decide

theorem statusFlag_pushedBySoftware (p : Byte) (f : Flag) :
    statusFlag (pushedBySoftware p) f = match f with | .b => true | .u => true | g => statusFlag p g := by
  revert p
  cases f <;> decide

theorem statusFlag_pushedByInterrupt (p : Byte) (f : Flag) :
    statusFlag (pushedByInterrupt p) f = match f with | .b => false | .u => true | g => statusFlag p g := by
  revert p
  cases f <;> decide

/-- P is its eight flags. -/
theorem status_ext {p q : Byte} (h : ∀ f, statusFlag p f = statusFlag q f) : p = q := by
  apply BitVec.eq_of_getLsbD_eq
  intro i hi
  match i, hi with
  | 0, _ => exact h .c
  | 1, _ => exact h .z
  | 2, _ => exact h .i
  | 3, _ => exact h .d
  | 4, _ => exact h .b
  | 5, _ => exact h .u
  | 6, _ => exact h .v
  | 7, _ => exact h .n

theorem State.getFlag_setZN (s : State) (v : Byte) (f : Flag) :
    (s.setZN v).getFlag f =
      if f = .n then v.getLsbD 7 else if f = .z then (v == 0x00#8) else s.getFlag f := by
  unfold State.setZN
  rw [State.getFlag_setFlag, State.getFlag_setFlag]

theorem State.getFlag_addToA (s : State) (m : Byte) (f : Flag) :
    (s.addToA m).getFlag f =
      match f with
      | .c => adcCarry s.a m (s.getFlag .c)
      | .v => adcOverflow s.a m (s.getFlag .c)
      | .z => adcResult s.a m (s.getFlag .c) == 0x00#8
      | .n => (adcResult s.a m (s.getFlag .c)).getLsbD 7
      | g => s.getFlag g := by
  unfold State.addToA
  rw [State.getFlag_setZN]
  show (if f = .n then _ else if f = .z then _ else State.getFlag (State.setFlag (State.setFlag s _ _) _ _) f) = _
  rw [State.getFlag_setFlag, State.getFlag_setFlag]
  cases f <;> simp

theorem State.getFlag_compare (s : State) (r m : Byte) (f : Flag) :
    (s.compare r m).getFlag f =
      match f with
      | .c => decide (m.toNat ≤ r.toNat)
      | .z => r == m
      | .n => (r - m).getLsbD 7
      | g => s.getFlag g := by
  unfold State.compare
  rw [State.getFlag_setFlag, State.getFlag_setFlag, State.getFlag_setFlag]
  cases f <;> simp

theorem State.getFlag_bitTest (s : State) (m : Byte) (f : Flag) :
    (s.bitTest m).getFlag f =
      match f with
      | .z => (s.a &&& m) == 0x00#8
      | .v => m.getLsbD 6
      | .n => m.getLsbD 7
      | g => s.getFlag g := by
  unfold State.bitTest
  rw [State.getFlag_setFlag, State.getFlag_setFlag, State.getFlag_setFlag]
  cases f <;> simp

/-! The ALU on numbers. -/

theorem adcResult_toNat (a m : Byte) (c : Bool) : (adcResult a m c).toNat = (a.toNat + m.toNat + c.toNat) % 256 := by
  unfold adcResult adcSum
  simp

/-- R132: V is set exactly when A and m have the same sign bit and the result has the other. -/
theorem adcOverflow_msb (a m : Byte) (c : Bool) :
    adcOverflow a m c = ((a.msb == m.msb) && ((adcResult a m c).msb != a.msb)) := by
  unfold adcOverflow
  generalize adcResult a m c = r
  have top : ∀ x : Byte, (x &&& 0x80#8 != 0x00#8) = x.msb := by decide
  rw [top, BitVec.msb_and, BitVec.msb_xor, BitVec.msb_xor]
  cases a.msb <;> cases m.msb <;> cases r.msb <;> rfl

theorem aslResult_toNat (m : Byte) : (aslResult m).toNat = m.toNat * 2 % 256 := by
  simp [aslResult, Nat.shiftLeft_eq]

theorem lsrResult_toNat (m : Byte) : (lsrResult m).toNat = m.toNat / 2 := by
  simp [lsrResult, Nat.shiftRight_eq_div_pow]

theorem rolResult_toNat (m : Byte) (c : Bool) : (rolResult m c).toNat = (m.toNat * 2 + c.toNat) % 256 := by
  have hc : c.toNat < 2 := by cases c <;> decide
  have h := Nat.shiftLeft_add_eq_or_of_lt (i := 1) (b := c.toNat) hc (m.toNat % 128)
  have e : m.toNat * 2 ^ 1 % 2 ^ 8 = (m.toNat % 128) <<< 1 := by rw [Nat.shiftLeft_eq]; omega
  unfold rolResult
  rw [BitVec.toNat_or, BitVec.toNat_shiftLeft, bit_toNat, Nat.shiftLeft_eq, e, ← h, Nat.shiftLeft_eq]
  omega

theorem rorResult_toNat (m : Byte) (c : Bool) : (rorResult m c).toNat = m.toNat / 2 + c.toNat * 128 := by
  have hc : c.toNat < 2 := by cases c <;> decide
  have hm : m.toNat / 2 < 2 ^ 7 := by have := m.isLt; omega
  have h := Nat.shiftLeft_add_eq_or_of_lt (i := 7) (b := m.toNat / 2) hm c.toNat
  have e : c.toNat * 2 ^ 7 % 2 ^ 8 = c.toNat <<< 7 := by rw [Nat.shiftLeft_eq]; omega
  unfold rorResult
  rw [BitVec.toNat_or, BitVec.toNat_shiftLeft, bit_toNat, Nat.shiftLeft_eq, BitVec.toNat_ushiftRight,
    Nat.shiftRight_eq_div_pow, e, Nat.or_comm]
  rw [← h, Nat.shiftLeft_eq]
  omega

/-! The status byte each flag computation leaves. -/

@[simp] theorem State.addToA_p (s : State) (m : Byte) :
    (s.addToA m).p =
      statusWith (statusWith (statusWith (statusWith s.p .c (adcCarry s.a m (s.getFlag .c)))
        .v (adcOverflow s.a m (s.getFlag .c))) .z (adcResult s.a m (s.getFlag .c) == 0x00#8))
        .n ((adcResult s.a m (s.getFlag .c)).getLsbD 7) := rfl

@[simp] theorem State.compare_p (s : State) (r m : Byte) :
    (s.compare r m).p =
      statusWith (statusWith (statusWith s.p .c (decide (m.toNat ≤ r.toNat))) .z (r == m))
        .n ((r - m).getLsbD 7) := rfl

@[simp] theorem State.bitTest_p (s : State) (m : Byte) :
    (s.bitTest m).p =
      statusWith (statusWith (statusWith s.p .z ((s.a &&& m) == 0x00#8)) .v (m.getLsbD 6)) .n (m.getLsbD 7) := rfl

end Sys2Proof.Machine
end

