-- ==== Sys2Proof/Laws/State.lean ====
section
/-! SUPPORT. One lemma for each field of the state and each named update of it, so that no later proof unfolds a
record update. -/

namespace Sys2Proof.Machine

/-! `setFlag` -/

@[simp] theorem State.setFlag_a (s : State) (f : Flag) (b : Bool) : (s.setFlag f b).a = s.a := rfl
@[simp] theorem State.setFlag_x (s : State) (f : Flag) (b : Bool) : (s.setFlag f b).x = s.x := rfl
@[simp] theorem State.setFlag_y (s : State) (f : Flag) (b : Bool) : (s.setFlag f b).y = s.y := rfl
@[simp] theorem State.setFlag_sp (s : State) (f : Flag) (b : Bool) : (s.setFlag f b).sp = s.sp := rfl
@[simp] theorem State.setFlag_p (s : State) (f : Flag) (b : Bool) : (s.setFlag f b).p = statusWith s.p f b := rfl
@[simp] theorem State.setFlag_pc (s : State) (f : Flag) (b : Bool) : (s.setFlag f b).pc = s.pc := rfl
@[simp] theorem State.setFlag_cycles (s : State) (f : Flag) (b : Bool) : (s.setFlag f b).cycles = s.cycles := rfl
@[simp] theorem State.setFlag_opcode (s : State) (f : Flag) (b : Bool) : (s.setFlag f b).opcode = s.opcode := rfl
@[simp] theorem State.setFlag_fetched (s : State) (f : Flag) (b : Bool) : (s.setFlag f b).fetched = s.fetched := rfl
@[simp] theorem State.setFlag_addrAbs (s : State) (f : Flag) (b : Bool) : (s.setFlag f b).addrAbs = s.addrAbs := rfl
@[simp] theorem State.setFlag_addrRel (s : State) (f : Flag) (b : Bool) : (s.setFlag f b).addrRel = s.addrRel := rfl
@[simp] theorem State.setFlag_connected (s : State) (f : Flag) (b : Bool) : (s.setFlag f b).connected = s.connected := rfl
@[simp] theorem State.setFlag_fault (s : State) (f : Flag) (b : Bool) : (s.setFlag f b).fault = s.fault := rfl
@[simp] theorem State.setFlag_refused (s : State) (f : Flag) (b : Bool) : (s.setFlag f b).refused = s.refused := rfl
@[simp] theorem State.setFlag_irqLine (s : State) (f : Flag) (b : Bool) : (s.setFlag f b).irqLine = s.irqLine := rfl
@[simp] theorem State.setFlag_nmiLine (s : State) (f : Flag) (b : Bool) : (s.setFlag f b).nmiLine = s.nmiLine := rfl
@[simp] theorem State.setFlag_nmiPending (s : State) (f : Flag) (b : Bool) : (s.setFlag f b).nmiPending = s.nmiPending := rfl
@[simp] theorem State.setFlag_mem (s : State) (f : Flag) (b : Bool) : (s.setFlag f b).mem = s.mem := rfl
@[simp] theorem State.setFlag_params (s : State) (f : Flag) (b : Bool) : (s.setFlag f b).params = s.params := rfl

/-! `setZN` -/

@[simp] theorem State.setZN_a (s : State) (v : Byte) : (s.setZN v).a = s.a := by simp [State.setZN]
@[simp] theorem State.setZN_x (s : State) (v : Byte) : (s.setZN v).x = s.x := by simp [State.setZN]
@[simp] theorem State.setZN_y (s : State) (v : Byte) : (s.setZN v).y = s.y := by simp [State.setZN]
@[simp] theorem State.setZN_sp (s : State) (v : Byte) : (s.setZN v).sp = s.sp := by simp [State.setZN]
@[simp] theorem State.setZN_p (s : State) (v : Byte) : (s.setZN v).p = statusWith (statusWith s.p .z (v == 0x00#8)) .n (v.getLsbD 7) := by simp [State.setZN]
@[simp] theorem State.setZN_pc (s : State) (v : Byte) : (s.setZN v).pc = s.pc := by simp [State.setZN]
@[simp] theorem State.setZN_cycles (s : State) (v : Byte) : (s.setZN v).cycles = s.cycles := by simp [State.setZN]
@[simp] theorem State.setZN_opcode (s : State) (v : Byte) : (s.setZN v).opcode = s.opcode := by simp [State.setZN]
@[simp] theorem State.setZN_fetched (s : State) (v : Byte) : (s.setZN v).fetched = s.fetched := by simp [State.setZN]
@[simp] theorem State.setZN_addrAbs (s : State) (v : Byte) : (s.setZN v).addrAbs = s.addrAbs := by simp [State.setZN]
@[simp] theorem State.setZN_addrRel (s : State) (v : Byte) : (s.setZN v).addrRel = s.addrRel := by simp [State.setZN]
@[simp] theorem State.setZN_connected (s : State) (v : Byte) : (s.setZN v).connected = s.connected := by simp [State.setZN]
@[simp] theorem State.setZN_fault (s : State) (v : Byte) : (s.setZN v).fault = s.fault := by simp [State.setZN]
@[simp] theorem State.setZN_refused (s : State) (v : Byte) : (s.setZN v).refused = s.refused := by simp [State.setZN]
@[simp] theorem State.setZN_irqLine (s : State) (v : Byte) : (s.setZN v).irqLine = s.irqLine := by simp [State.setZN]
@[simp] theorem State.setZN_nmiLine (s : State) (v : Byte) : (s.setZN v).nmiLine = s.nmiLine := by simp [State.setZN]
@[simp] theorem State.setZN_nmiPending (s : State) (v : Byte) : (s.setZN v).nmiPending = s.nmiPending := by simp [State.setZN]
@[simp] theorem State.setZN_mem (s : State) (v : Byte) : (s.setZN v).mem = s.mem := by simp [State.setZN]
@[simp] theorem State.setZN_params (s : State) (v : Byte) : (s.setZN v).params = s.params := by simp [State.setZN]

/-! `write` -/

@[simp] theorem State.write_a (s : State) (addr : Addr) (v : Byte) : (s.write addr v).a = s.a := rfl
@[simp] theorem State.write_x (s : State) (addr : Addr) (v : Byte) : (s.write addr v).x = s.x := rfl
@[simp] theorem State.write_y (s : State) (addr : Addr) (v : Byte) : (s.write addr v).y = s.y := rfl
@[simp] theorem State.write_sp (s : State) (addr : Addr) (v : Byte) : (s.write addr v).sp = s.sp := rfl
@[simp] theorem State.write_p (s : State) (addr : Addr) (v : Byte) : (s.write addr v).p = s.p := rfl
@[simp] theorem State.write_pc (s : State) (addr : Addr) (v : Byte) : (s.write addr v).pc = s.pc := rfl
@[simp] theorem State.write_cycles (s : State) (addr : Addr) (v : Byte) : (s.write addr v).cycles = s.cycles := rfl
@[simp] theorem State.write_opcode (s : State) (addr : Addr) (v : Byte) : (s.write addr v).opcode = s.opcode := rfl
@[simp] theorem State.write_fetched (s : State) (addr : Addr) (v : Byte) : (s.write addr v).fetched = s.fetched := rfl
@[simp] theorem State.write_addrAbs (s : State) (addr : Addr) (v : Byte) : (s.write addr v).addrAbs = s.addrAbs := rfl
@[simp] theorem State.write_addrRel (s : State) (addr : Addr) (v : Byte) : (s.write addr v).addrRel = s.addrRel := rfl
@[simp] theorem State.write_connected (s : State) (addr : Addr) (v : Byte) : (s.write addr v).connected = s.connected := rfl
@[simp] theorem State.write_fault (s : State) (addr : Addr) (v : Byte) : (s.write addr v).fault = s.fault := rfl
@[simp] theorem State.write_refused (s : State) (addr : Addr) (v : Byte) : (s.write addr v).refused = s.refused := rfl
@[simp] theorem State.write_irqLine (s : State) (addr : Addr) (v : Byte) : (s.write addr v).irqLine = s.irqLine := rfl
@[simp] theorem State.write_nmiLine (s : State) (addr : Addr) (v : Byte) : (s.write addr v).nmiLine = s.nmiLine := rfl
@[simp] theorem State.write_nmiPending (s : State) (addr : Addr) (v : Byte) : (s.write addr v).nmiPending = s.nmiPending := rfl
@[simp] theorem State.write_mem (s : State) (addr : Addr) (v : Byte) : (s.write addr v).mem = Memory.write s.mem addr.toNat v := rfl
@[simp] theorem State.write_params (s : State) (addr : Addr) (v : Byte) : (s.write addr v).params = s.params := rfl

/-! `push` -/

@[simp] theorem State.push_a (s : State) (v : Byte) : (s.push v).a = s.a := rfl
@[simp] theorem State.push_x (s : State) (v : Byte) : (s.push v).x = s.x := rfl
@[simp] theorem State.push_y (s : State) (v : Byte) : (s.push v).y = s.y := rfl
@[simp] theorem State.push_sp (s : State) (v : Byte) : (s.push v).sp = s.sp - 1 := rfl
@[simp] theorem State.push_p (s : State) (v : Byte) : (s.push v).p = s.p := rfl
@[simp] theorem State.push_pc (s : State) (v : Byte) : (s.push v).pc = s.pc := rfl
@[simp] theorem State.push_cycles (s : State) (v : Byte) : (s.push v).cycles = s.cycles := rfl
@[simp] theorem State.push_opcode (s : State) (v : Byte) : (s.push v).opcode = s.opcode := rfl
@[simp] theorem State.push_fetched (s : State) (v : Byte) : (s.push v).fetched = s.fetched := rfl
@[simp] theorem State.push_addrAbs (s : State) (v : Byte) : (s.push v).addrAbs = s.addrAbs := rfl
@[simp] theorem State.push_addrRel (s : State) (v : Byte) : (s.push v).addrRel = s.addrRel := rfl
@[simp] theorem State.push_connected (s : State) (v : Byte) : (s.push v).connected = s.connected := rfl
@[simp] theorem State.push_fault (s : State) (v : Byte) : (s.push v).fault = s.fault := rfl
@[simp] theorem State.push_refused (s : State) (v : Byte) : (s.push v).refused = s.refused := rfl
@[simp] theorem State.push_irqLine (s : State) (v : Byte) : (s.push v).irqLine = s.irqLine := rfl
@[simp] theorem State.push_nmiLine (s : State) (v : Byte) : (s.push v).nmiLine = s.nmiLine := rfl
@[simp] theorem State.push_nmiPending (s : State) (v : Byte) : (s.push v).nmiPending = s.nmiPending := rfl
@[simp] theorem State.push_mem (s : State) (v : Byte) : (s.push v).mem = (s.write (stackAddr s.sp) v).mem := rfl
@[simp] theorem State.push_params (s : State) (v : Byte) : (s.push v).params = s.params := rfl

/-! `pop` -/

@[simp] theorem State.pop_a (s : State) : s.pop.a = s.a := rfl
@[simp] theorem State.pop_x (s : State) : s.pop.x = s.x := rfl
@[simp] theorem State.pop_y (s : State) : s.pop.y = s.y := rfl
@[simp] theorem State.pop_sp (s : State) : s.pop.sp = s.sp + 1 := rfl
@[simp] theorem State.pop_p (s : State) : s.pop.p = s.p := rfl
@[simp] theorem State.pop_pc (s : State) : s.pop.pc = s.pc := rfl
@[simp] theorem State.pop_cycles (s : State) : s.pop.cycles = s.cycles := rfl
@[simp] theorem State.pop_opcode (s : State) : s.pop.opcode = s.opcode := rfl
@[simp] theorem State.pop_fetched (s : State) : s.pop.fetched = s.fetched := rfl
@[simp] theorem State.pop_addrAbs (s : State) : s.pop.addrAbs = s.addrAbs := rfl
@[simp] theorem State.pop_addrRel (s : State) : s.pop.addrRel = s.addrRel := rfl
@[simp] theorem State.pop_connected (s : State) : s.pop.connected = s.connected := rfl
@[simp] theorem State.pop_fault (s : State) : s.pop.fault = s.fault := rfl
@[simp] theorem State.pop_refused (s : State) : s.pop.refused = s.refused := rfl
@[simp] theorem State.pop_irqLine (s : State) : s.pop.irqLine = s.irqLine := rfl
@[simp] theorem State.pop_nmiLine (s : State) : s.pop.nmiLine = s.nmiLine := rfl
@[simp] theorem State.pop_nmiPending (s : State) : s.pop.nmiPending = s.nmiPending := rfl
@[simp] theorem State.pop_mem (s : State) : s.pop.mem = s.mem := rfl
@[simp] theorem State.pop_params (s : State) : s.pop.params = s.params := rfl

/-! `push16` -/

@[simp] theorem State.push16_a (s : State) (v : Addr) : (s.push16 v).a = s.a := by simp [State.push16]
@[simp] theorem State.push16_x (s : State) (v : Addr) : (s.push16 v).x = s.x := by simp [State.push16]
@[simp] theorem State.push16_y (s : State) (v : Addr) : (s.push16 v).y = s.y := by simp [State.push16]
@[simp] theorem State.push16_sp (s : State) (v : Addr) : (s.push16 v).sp = s.sp - 1 - 1 := by simp [State.push16]
@[simp] theorem State.push16_p (s : State) (v : Addr) : (s.push16 v).p = s.p := by simp [State.push16]
@[simp] theorem State.push16_pc (s : State) (v : Addr) : (s.push16 v).pc = s.pc := by simp [State.push16]
@[simp] theorem State.push16_cycles (s : State) (v : Addr) : (s.push16 v).cycles = s.cycles := by simp [State.push16]
@[simp] theorem State.push16_opcode (s : State) (v : Addr) : (s.push16 v).opcode = s.opcode := by simp [State.push16]
@[simp] theorem State.push16_fetched (s : State) (v : Addr) : (s.push16 v).fetched = s.fetched := by simp [State.push16]
@[simp] theorem State.push16_addrAbs (s : State) (v : Addr) : (s.push16 v).addrAbs = s.addrAbs := by simp [State.push16]
@[simp] theorem State.push16_addrRel (s : State) (v : Addr) : (s.push16 v).addrRel = s.addrRel := by simp [State.push16]
@[simp] theorem State.push16_connected (s : State) (v : Addr) : (s.push16 v).connected = s.connected := by simp [State.push16]
@[simp] theorem State.push16_fault (s : State) (v : Addr) : (s.push16 v).fault = s.fault := by simp [State.push16]
@[simp] theorem State.push16_refused (s : State) (v : Addr) : (s.push16 v).refused = s.refused := by simp [State.push16]
@[simp] theorem State.push16_irqLine (s : State) (v : Addr) : (s.push16 v).irqLine = s.irqLine := by simp [State.push16]
@[simp] theorem State.push16_nmiLine (s : State) (v : Addr) : (s.push16 v).nmiLine = s.nmiLine := by simp [State.push16]
@[simp] theorem State.push16_nmiPending (s : State) (v : Addr) : (s.push16 v).nmiPending = s.nmiPending := by simp [State.push16]
@[simp] theorem State.push16_mem (s : State) (v : Addr) : (s.push16 v).mem = ((s.write (stackAddr s.sp) (hiByte v)).write (stackAddr (s.sp - 1)) (loByte v)).mem := by simp [State.push16]
@[simp] theorem State.push16_params (s : State) (v : Addr) : (s.push16 v).params = s.params := by simp [State.push16]

/-! `pop16` -/

@[simp] theorem State.pop16_a (s : State) : s.pop16.a = s.a := by simp [State.pop16]
@[simp] theorem State.pop16_x (s : State) : s.pop16.x = s.x := by simp [State.pop16]
@[simp] theorem State.pop16_y (s : State) : s.pop16.y = s.y := by simp [State.pop16]
@[simp] theorem State.pop16_sp (s : State) : s.pop16.sp = s.sp + 1 + 1 := by simp [State.pop16]
@[simp] theorem State.pop16_p (s : State) : s.pop16.p = s.p := by simp [State.pop16]
@[simp] theorem State.pop16_pc (s : State) : s.pop16.pc = s.pc := by simp [State.pop16]
@[simp] theorem State.pop16_cycles (s : State) : s.pop16.cycles = s.cycles := by simp [State.pop16]
@[simp] theorem State.pop16_opcode (s : State) : s.pop16.opcode = s.opcode := by simp [State.pop16]
@[simp] theorem State.pop16_fetched (s : State) : s.pop16.fetched = s.fetched := by simp [State.pop16]
@[simp] theorem State.pop16_addrAbs (s : State) : s.pop16.addrAbs = s.addrAbs := by simp [State.pop16]
@[simp] theorem State.pop16_addrRel (s : State) : s.pop16.addrRel = s.addrRel := by simp [State.pop16]
@[simp] theorem State.pop16_connected (s : State) : s.pop16.connected = s.connected := by simp [State.pop16]
@[simp] theorem State.pop16_fault (s : State) : s.pop16.fault = s.fault := by simp [State.pop16]
@[simp] theorem State.pop16_refused (s : State) : s.pop16.refused = s.refused := by simp [State.pop16]
@[simp] theorem State.pop16_irqLine (s : State) : s.pop16.irqLine = s.irqLine := by simp [State.pop16]
@[simp] theorem State.pop16_nmiLine (s : State) : s.pop16.nmiLine = s.nmiLine := by simp [State.pop16]
@[simp] theorem State.pop16_nmiPending (s : State) : s.pop16.nmiPending = s.nmiPending := by simp [State.pop16]
@[simp] theorem State.pop16_mem (s : State) : s.pop16.mem = s.mem := by simp [State.pop16]
@[simp] theorem State.pop16_params (s : State) : s.pop16.params = s.params := by simp [State.pop16]

/-! `startFetch` -/

@[simp] theorem State.startFetch_a (s : State) (op n : Byte) : (s.startFetch op n).a = s.a := rfl
@[simp] theorem State.startFetch_x (s : State) (op n : Byte) : (s.startFetch op n).x = s.x := rfl
@[simp] theorem State.startFetch_y (s : State) (op n : Byte) : (s.startFetch op n).y = s.y := rfl
@[simp] theorem State.startFetch_sp (s : State) (op n : Byte) : (s.startFetch op n).sp = s.sp := rfl
@[simp] theorem State.startFetch_p (s : State) (op n : Byte) : (s.startFetch op n).p = s.p := rfl
@[simp] theorem State.startFetch_pc (s : State) (op n : Byte) : (s.startFetch op n).pc = s.pc + 1 := rfl
@[simp] theorem State.startFetch_cycles (s : State) (op n : Byte) : (s.startFetch op n).cycles = n := rfl
@[simp] theorem State.startFetch_opcode (s : State) (op n : Byte) : (s.startFetch op n).opcode = op := rfl
@[simp] theorem State.startFetch_fetched (s : State) (op n : Byte) : (s.startFetch op n).fetched = s.fetched := rfl
@[simp] theorem State.startFetch_addrAbs (s : State) (op n : Byte) : (s.startFetch op n).addrAbs = s.addrAbs := rfl
@[simp] theorem State.startFetch_addrRel (s : State) (op n : Byte) : (s.startFetch op n).addrRel = s.addrRel := rfl
@[simp] theorem State.startFetch_connected (s : State) (op n : Byte) : (s.startFetch op n).connected = s.connected := rfl
@[simp] theorem State.startFetch_fault (s : State) (op n : Byte) : (s.startFetch op n).fault = s.fault := rfl
@[simp] theorem State.startFetch_refused (s : State) (op n : Byte) : (s.startFetch op n).refused = s.refused := rfl
@[simp] theorem State.startFetch_irqLine (s : State) (op n : Byte) : (s.startFetch op n).irqLine = s.irqLine := rfl
@[simp] theorem State.startFetch_nmiLine (s : State) (op n : Byte) : (s.startFetch op n).nmiLine = s.nmiLine := rfl
@[simp] theorem State.startFetch_nmiPending (s : State) (op n : Byte) : (s.startFetch op n).nmiPending = s.nmiPending := rfl
@[simp] theorem State.startFetch_mem (s : State) (op n : Byte) : (s.startFetch op n).mem = s.mem := rfl
@[simp] theorem State.startFetch_params (s : State) (op n : Byte) : (s.startFetch op n).params = s.params := rfl

/-! `addCycles` -/

@[simp] theorem State.addCycles_a (s : State) (k : Byte) : (s.addCycles k).a = s.a := rfl
@[simp] theorem State.addCycles_x (s : State) (k : Byte) : (s.addCycles k).x = s.x := rfl
@[simp] theorem State.addCycles_y (s : State) (k : Byte) : (s.addCycles k).y = s.y := rfl
@[simp] theorem State.addCycles_sp (s : State) (k : Byte) : (s.addCycles k).sp = s.sp := rfl
@[simp] theorem State.addCycles_p (s : State) (k : Byte) : (s.addCycles k).p = s.p := rfl
@[simp] theorem State.addCycles_pc (s : State) (k : Byte) : (s.addCycles k).pc = s.pc := rfl
@[simp] theorem State.addCycles_cycles (s : State) (k : Byte) : (s.addCycles k).cycles = s.cycles + k := rfl
@[simp] theorem State.addCycles_opcode (s : State) (k : Byte) : (s.addCycles k).opcode = s.opcode := rfl
@[simp] theorem State.addCycles_fetched (s : State) (k : Byte) : (s.addCycles k).fetched = s.fetched := rfl
@[simp] theorem State.addCycles_addrAbs (s : State) (k : Byte) : (s.addCycles k).addrAbs = s.addrAbs := rfl
@[simp] theorem State.addCycles_addrRel (s : State) (k : Byte) : (s.addCycles k).addrRel = s.addrRel := rfl
@[simp] theorem State.addCycles_connected (s : State) (k : Byte) : (s.addCycles k).connected = s.connected := rfl
@[simp] theorem State.addCycles_fault (s : State) (k : Byte) : (s.addCycles k).fault = s.fault := rfl
@[simp] theorem State.addCycles_refused (s : State) (k : Byte) : (s.addCycles k).refused = s.refused := rfl
@[simp] theorem State.addCycles_irqLine (s : State) (k : Byte) : (s.addCycles k).irqLine = s.irqLine := rfl
@[simp] theorem State.addCycles_nmiLine (s : State) (k : Byte) : (s.addCycles k).nmiLine = s.nmiLine := rfl
@[simp] theorem State.addCycles_nmiPending (s : State) (k : Byte) : (s.addCycles k).nmiPending = s.nmiPending := rfl
@[simp] theorem State.addCycles_mem (s : State) (k : Byte) : (s.addCycles k).mem = s.mem := rfl
@[simp] theorem State.addCycles_params (s : State) (k : Byte) : (s.addCycles k).params = s.params := rfl

/-! `addToA` -/

@[simp] theorem State.addToA_a (s : State) (m : Byte) : (s.addToA m).a = adcResult s.a m (s.getFlag .c) := by simp [State.addToA]
@[simp] theorem State.addToA_x (s : State) (m : Byte) : (s.addToA m).x = s.x := by simp [State.addToA]
@[simp] theorem State.addToA_y (s : State) (m : Byte) : (s.addToA m).y = s.y := by simp [State.addToA]
@[simp] theorem State.addToA_sp (s : State) (m : Byte) : (s.addToA m).sp = s.sp := by simp [State.addToA]
@[simp] theorem State.addToA_pc (s : State) (m : Byte) : (s.addToA m).pc = s.pc := by simp [State.addToA]
@[simp] theorem State.addToA_cycles (s : State) (m : Byte) : (s.addToA m).cycles = s.cycles := by simp [State.addToA]
@[simp] theorem State.addToA_opcode (s : State) (m : Byte) : (s.addToA m).opcode = s.opcode := by simp [State.addToA]
@[simp] theorem State.addToA_fetched (s : State) (m : Byte) : (s.addToA m).fetched = s.fetched := by simp [State.addToA]
@[simp] theorem State.addToA_addrAbs (s : State) (m : Byte) : (s.addToA m).addrAbs = s.addrAbs := by simp [State.addToA]
@[simp] theorem State.addToA_addrRel (s : State) (m : Byte) : (s.addToA m).addrRel = s.addrRel := by simp [State.addToA]
@[simp] theorem State.addToA_connected (s : State) (m : Byte) : (s.addToA m).connected = s.connected := by simp [State.addToA]
@[simp] theorem State.addToA_fault (s : State) (m : Byte) : (s.addToA m).fault = s.fault := by simp [State.addToA]
@[simp] theorem State.addToA_refused (s : State) (m : Byte) : (s.addToA m).refused = s.refused := by simp [State.addToA]
@[simp] theorem State.addToA_irqLine (s : State) (m : Byte) : (s.addToA m).irqLine = s.irqLine := by simp [State.addToA]
@[simp] theorem State.addToA_nmiLine (s : State) (m : Byte) : (s.addToA m).nmiLine = s.nmiLine := by simp [State.addToA]
@[simp] theorem State.addToA_nmiPending (s : State) (m : Byte) : (s.addToA m).nmiPending = s.nmiPending := by simp [State.addToA]
@[simp] theorem State.addToA_mem (s : State) (m : Byte) : (s.addToA m).mem = s.mem := by simp [State.addToA]
@[simp] theorem State.addToA_params (s : State) (m : Byte) : (s.addToA m).params = s.params := by simp [State.addToA]

/-! `compare` -/

@[simp] theorem State.compare_a (s : State) (r m : Byte) : (s.compare r m).a = s.a := by simp [State.compare]
@[simp] theorem State.compare_x (s : State) (r m : Byte) : (s.compare r m).x = s.x := by simp [State.compare]
@[simp] theorem State.compare_y (s : State) (r m : Byte) : (s.compare r m).y = s.y := by simp [State.compare]
@[simp] theorem State.compare_sp (s : State) (r m : Byte) : (s.compare r m).sp = s.sp := by simp [State.compare]
@[simp] theorem State.compare_pc (s : State) (r m : Byte) : (s.compare r m).pc = s.pc := by simp [State.compare]
@[simp] theorem State.compare_cycles (s : State) (r m : Byte) : (s.compare r m).cycles = s.cycles := by simp [State.compare]
@[simp] theorem State.compare_opcode (s : State) (r m : Byte) : (s.compare r m).opcode = s.opcode := by simp [State.compare]
@[simp] theorem State.compare_fetched (s : State) (r m : Byte) : (s.compare r m).fetched = s.fetched := by simp [State.compare]
@[simp] theorem State.compare_addrAbs (s : State) (r m : Byte) : (s.compare r m).addrAbs = s.addrAbs := by simp [State.compare]
@[simp] theorem State.compare_addrRel (s : State) (r m : Byte) : (s.compare r m).addrRel = s.addrRel := by simp [State.compare]
@[simp] theorem State.compare_connected (s : State) (r m : Byte) : (s.compare r m).connected = s.connected := by simp [State.compare]
@[simp] theorem State.compare_fault (s : State) (r m : Byte) : (s.compare r m).fault = s.fault := by simp [State.compare]
@[simp] theorem State.compare_refused (s : State) (r m : Byte) : (s.compare r m).refused = s.refused := by simp [State.compare]
@[simp] theorem State.compare_irqLine (s : State) (r m : Byte) : (s.compare r m).irqLine = s.irqLine := by simp [State.compare]
@[simp] theorem State.compare_nmiLine (s : State) (r m : Byte) : (s.compare r m).nmiLine = s.nmiLine := by simp [State.compare]
@[simp] theorem State.compare_nmiPending (s : State) (r m : Byte) : (s.compare r m).nmiPending = s.nmiPending := by simp [State.compare]
@[simp] theorem State.compare_mem (s : State) (r m : Byte) : (s.compare r m).mem = s.mem := by simp [State.compare]
@[simp] theorem State.compare_params (s : State) (r m : Byte) : (s.compare r m).params = s.params := by simp [State.compare]

/-! `bitTest` -/

@[simp] theorem State.bitTest_a (s : State) (m : Byte) : (s.bitTest m).a = s.a := by simp [State.bitTest]
@[simp] theorem State.bitTest_x (s : State) (m : Byte) : (s.bitTest m).x = s.x := by simp [State.bitTest]
@[simp] theorem State.bitTest_y (s : State) (m : Byte) : (s.bitTest m).y = s.y := by simp [State.bitTest]
@[simp] theorem State.bitTest_sp (s : State) (m : Byte) : (s.bitTest m).sp = s.sp := by simp [State.bitTest]
@[simp] theorem State.bitTest_pc (s : State) (m : Byte) : (s.bitTest m).pc = s.pc := by simp [State.bitTest]
@[simp] theorem State.bitTest_cycles (s : State) (m : Byte) : (s.bitTest m).cycles = s.cycles := by simp [State.bitTest]
@[simp] theorem State.bitTest_opcode (s : State) (m : Byte) : (s.bitTest m).opcode = s.opcode := by simp [State.bitTest]
@[simp] theorem State.bitTest_fetched (s : State) (m : Byte) : (s.bitTest m).fetched = s.fetched := by simp [State.bitTest]
@[simp] theorem State.bitTest_addrAbs (s : State) (m : Byte) : (s.bitTest m).addrAbs = s.addrAbs := by simp [State.bitTest]
@[simp] theorem State.bitTest_addrRel (s : State) (m : Byte) : (s.bitTest m).addrRel = s.addrRel := by simp [State.bitTest]
@[simp] theorem State.bitTest_connected (s : State) (m : Byte) : (s.bitTest m).connected = s.connected := by simp [State.bitTest]
@[simp] theorem State.bitTest_fault (s : State) (m : Byte) : (s.bitTest m).fault = s.fault := by simp [State.bitTest]
@[simp] theorem State.bitTest_refused (s : State) (m : Byte) : (s.bitTest m).refused = s.refused := by simp [State.bitTest]
@[simp] theorem State.bitTest_irqLine (s : State) (m : Byte) : (s.bitTest m).irqLine = s.irqLine := by simp [State.bitTest]
@[simp] theorem State.bitTest_nmiLine (s : State) (m : Byte) : (s.bitTest m).nmiLine = s.nmiLine := by simp [State.bitTest]
@[simp] theorem State.bitTest_nmiPending (s : State) (m : Byte) : (s.bitTest m).nmiPending = s.nmiPending := by simp [State.bitTest]
@[simp] theorem State.bitTest_mem (s : State) (m : Byte) : (s.bitTest m).mem = s.mem := by simp [State.bitTest]
@[simp] theorem State.bitTest_params (s : State) (m : Byte) : (s.bitTest m).params = s.params := by simp [State.bitTest]

/-! `enterException` -/

@[simp] theorem State.enterException_a (s : State) (c : Byte) (v : Addr) : (s.enterException c v).a = s.a := by simp [State.enterException]
@[simp] theorem State.enterException_x (s : State) (c : Byte) (v : Addr) : (s.enterException c v).x = s.x := by simp [State.enterException]
@[simp] theorem State.enterException_y (s : State) (c : Byte) (v : Addr) : (s.enterException c v).y = s.y := by simp [State.enterException]
@[simp] theorem State.enterException_sp (s : State) (c : Byte) (v : Addr) : (s.enterException c v).sp = s.sp - 1 - 1 - 1 := by simp [State.enterException]
@[simp] theorem State.enterException_p (s : State) (c : Byte) (v : Addr) : (s.enterException c v).p = statusWith s.p .i true := by simp [State.enterException]
@[simp] theorem State.enterException_pc (s : State) (c : Byte) (v : Addr) : (s.enterException c v).pc = ((s.push16 s.pc).push c).read16 v := by
  unfold State.enterException; rfl
@[simp] theorem State.enterException_cycles (s : State) (c : Byte) (v : Addr) : (s.enterException c v).cycles = s.cycles := by simp [State.enterException]
@[simp] theorem State.enterException_opcode (s : State) (c : Byte) (v : Addr) : (s.enterException c v).opcode = s.opcode := by simp [State.enterException]
@[simp] theorem State.enterException_fetched (s : State) (c : Byte) (v : Addr) : (s.enterException c v).fetched = s.fetched := by simp [State.enterException]
@[simp] theorem State.enterException_addrAbs (s : State) (c : Byte) (v : Addr) : (s.enterException c v).addrAbs = s.addrAbs := by simp [State.enterException]
@[simp] theorem State.enterException_addrRel (s : State) (c : Byte) (v : Addr) : (s.enterException c v).addrRel = s.addrRel := by simp [State.enterException]
@[simp] theorem State.enterException_connected (s : State) (c : Byte) (v : Addr) : (s.enterException c v).connected = s.connected := by simp [State.enterException]
@[simp] theorem State.enterException_fault (s : State) (c : Byte) (v : Addr) : (s.enterException c v).fault = s.fault := by simp [State.enterException]
@[simp] theorem State.enterException_refused (s : State) (c : Byte) (v : Addr) : (s.enterException c v).refused = s.refused := by simp [State.enterException]
@[simp] theorem State.enterException_irqLine (s : State) (c : Byte) (v : Addr) : (s.enterException c v).irqLine = s.irqLine := by simp [State.enterException]
@[simp] theorem State.enterException_nmiLine (s : State) (c : Byte) (v : Addr) : (s.enterException c v).nmiLine = s.nmiLine := by simp [State.enterException]
@[simp] theorem State.enterException_nmiPending (s : State) (c : Byte) (v : Addr) : (s.enterException c v).nmiPending = s.nmiPending := by simp [State.enterException]
@[simp] theorem State.enterException_mem (s : State) (c : Byte) (v : Addr) : (s.enterException c v).mem = ((s.push16 s.pc).push c).mem := by simp [State.enterException]
@[simp] theorem State.enterException_params (s : State) (c : Byte) (v : Addr) : (s.enterException c v).params = s.params := by simp [State.enterException]

/-! `returnFromException` -/

@[simp] theorem State.returnFromException_a (s : State) : s.returnFromException.a = s.a := by simp [State.returnFromException]
@[simp] theorem State.returnFromException_x (s : State) : s.returnFromException.x = s.x := by simp [State.returnFromException]
@[simp] theorem State.returnFromException_y (s : State) : s.returnFromException.y = s.y := by simp [State.returnFromException]
@[simp] theorem State.returnFromException_sp (s : State) : s.returnFromException.sp = s.sp + 1 + 1 + 1 := by simp [State.returnFromException]
@[simp] theorem State.returnFromException_p (s : State) : s.returnFromException.p = pulledStatus s.pulled := by simp [State.returnFromException]
@[simp] theorem State.returnFromException_pc (s : State) : s.returnFromException.pc = s.pop.pulled16 := by
  unfold State.returnFromException; rfl
@[simp] theorem State.returnFromException_cycles (s : State) : s.returnFromException.cycles = s.cycles := by simp [State.returnFromException]
@[simp] theorem State.returnFromException_opcode (s : State) : s.returnFromException.opcode = s.opcode := by simp [State.returnFromException]
@[simp] theorem State.returnFromException_fetched (s : State) : s.returnFromException.fetched = s.fetched := by simp [State.returnFromException]
@[simp] theorem State.returnFromException_addrAbs (s : State) : s.returnFromException.addrAbs = s.addrAbs := by simp [State.returnFromException]
@[simp] theorem State.returnFromException_addrRel (s : State) : s.returnFromException.addrRel = s.addrRel := by simp [State.returnFromException]
@[simp] theorem State.returnFromException_connected (s : State) : s.returnFromException.connected = s.connected := by simp [State.returnFromException]
@[simp] theorem State.returnFromException_fault (s : State) : s.returnFromException.fault = s.fault := by simp [State.returnFromException]
@[simp] theorem State.returnFromException_refused (s : State) : s.returnFromException.refused = s.refused := by simp [State.returnFromException]
@[simp] theorem State.returnFromException_irqLine (s : State) : s.returnFromException.irqLine = s.irqLine := by simp [State.returnFromException]
@[simp] theorem State.returnFromException_nmiLine (s : State) : s.returnFromException.nmiLine = s.nmiLine := by simp [State.returnFromException]
@[simp] theorem State.returnFromException_nmiPending (s : State) : s.returnFromException.nmiPending = s.nmiPending := by simp [State.returnFromException]
@[simp] theorem State.returnFromException_mem (s : State) : s.returnFromException.mem = s.mem := by simp [State.returnFromException]
@[simp] theorem State.returnFromException_params (s : State) : s.returnFromException.params = s.params := by simp [State.returnFromException]

/-! `Operand.fetch` -/

@[simp] theorem Operand.fetch_a (s : State) (m : Operand) : (m.fetch s).a = s.a := rfl
@[simp] theorem Operand.fetch_x (s : State) (m : Operand) : (m.fetch s).x = s.x := rfl
@[simp] theorem Operand.fetch_y (s : State) (m : Operand) : (m.fetch s).y = s.y := rfl
@[simp] theorem Operand.fetch_sp (s : State) (m : Operand) : (m.fetch s).sp = s.sp := rfl
@[simp] theorem Operand.fetch_p (s : State) (m : Operand) : (m.fetch s).p = s.p := rfl
@[simp] theorem Operand.fetch_pc (s : State) (m : Operand) : (m.fetch s).pc = s.pc := rfl
@[simp] theorem Operand.fetch_cycles (s : State) (m : Operand) : (m.fetch s).cycles = s.cycles := rfl
@[simp] theorem Operand.fetch_opcode (s : State) (m : Operand) : (m.fetch s).opcode = s.opcode := rfl
@[simp] theorem Operand.fetch_fetched (s : State) (m : Operand) : (m.fetch s).fetched = m.value s := rfl
@[simp] theorem Operand.fetch_addrAbs (s : State) (m : Operand) : (m.fetch s).addrAbs = s.addrAbs := rfl
@[simp] theorem Operand.fetch_addrRel (s : State) (m : Operand) : (m.fetch s).addrRel = s.addrRel := rfl
@[simp] theorem Operand.fetch_connected (s : State) (m : Operand) : (m.fetch s).connected = s.connected := rfl
@[simp] theorem Operand.fetch_fault (s : State) (m : Operand) : (m.fetch s).fault = s.fault := rfl
@[simp] theorem Operand.fetch_refused (s : State) (m : Operand) : (m.fetch s).refused = s.refused := rfl
@[simp] theorem Operand.fetch_irqLine (s : State) (m : Operand) : (m.fetch s).irqLine = s.irqLine := rfl
@[simp] theorem Operand.fetch_nmiLine (s : State) (m : Operand) : (m.fetch s).nmiLine = s.nmiLine := rfl
@[simp] theorem Operand.fetch_nmiPending (s : State) (m : Operand) : (m.fetch s).nmiPending = s.nmiPending := rfl
@[simp] theorem Operand.fetch_mem (s : State) (m : Operand) : (m.fetch s).mem = s.mem := rfl
@[simp] theorem Operand.fetch_params (s : State) (m : Operand) : (m.fetch s).params = s.params := rfl

/-! `Operand.resolve`: PC and the scratch fields only (R74) -/

@[simp] theorem Operand.resolve_a (s : State) (m : Operand) : (m.resolve s).a = s.a := by cases m <;> rfl
@[simp] theorem Operand.resolve_x (s : State) (m : Operand) : (m.resolve s).x = s.x := by cases m <;> rfl
@[simp] theorem Operand.resolve_y (s : State) (m : Operand) : (m.resolve s).y = s.y := by cases m <;> rfl
@[simp] theorem Operand.resolve_sp (s : State) (m : Operand) : (m.resolve s).sp = s.sp := by cases m <;> rfl
@[simp] theorem Operand.resolve_p (s : State) (m : Operand) : (m.resolve s).p = s.p := by cases m <;> rfl
@[simp] theorem Operand.resolve_cycles (s : State) (m : Operand) : (m.resolve s).cycles = s.cycles := by cases m <;> rfl
@[simp] theorem Operand.resolve_opcode (s : State) (m : Operand) : (m.resolve s).opcode = s.opcode := by cases m <;> rfl
@[simp] theorem Operand.resolve_connected (s : State) (m : Operand) : (m.resolve s).connected = s.connected := by cases m <;> rfl
@[simp] theorem Operand.resolve_fault (s : State) (m : Operand) : (m.resolve s).fault = s.fault := by cases m <;> rfl
@[simp] theorem Operand.resolve_refused (s : State) (m : Operand) : (m.resolve s).refused = s.refused := by cases m <;> rfl
@[simp] theorem Operand.resolve_irqLine (s : State) (m : Operand) : (m.resolve s).irqLine = s.irqLine := by cases m <;> rfl
@[simp] theorem Operand.resolve_nmiLine (s : State) (m : Operand) : (m.resolve s).nmiLine = s.nmiLine := by cases m <;> rfl
@[simp] theorem Operand.resolve_nmiPending (s : State) (m : Operand) : (m.resolve s).nmiPending = s.nmiPending := by cases m <;> rfl
@[simp] theorem Operand.resolve_mem (s : State) (m : Operand) : (m.resolve s).mem = s.mem := by cases m <;> rfl
@[simp] theorem Operand.resolve_params (s : State) (m : Operand) : (m.resolve s).params = s.params := by cases m <;> rfl

/-- The PC-advance invariant (R89). -/
@[simp] theorem Operand.resolve_pc (s : State) (m : Operand) : (m.resolve s).pc = s.pc + m.bytes := by
  cases m <;> simp [Operand.resolve, Operand.bytes]

@[simp] theorem Operand.resolve_addrAbs (s : State) (m : Operand) : (m.resolve s).addrAbs = m.address s := by
  cases m <;> rfl

/-! `Operand.writeBack`: A or memory (R91) -/

@[simp] theorem Operand.writeBack_x (s : State) (m : Operand) (v : Byte) :
    (m.writeBack s v).x = s.x := by cases m <;> rfl
@[simp] theorem Operand.writeBack_y (s : State) (m : Operand) (v : Byte) :
    (m.writeBack s v).y = s.y := by cases m <;> rfl
@[simp] theorem Operand.writeBack_sp (s : State) (m : Operand) (v : Byte) :
    (m.writeBack s v).sp = s.sp := by cases m <;> rfl
@[simp] theorem Operand.writeBack_p (s : State) (m : Operand) (v : Byte) :
    (m.writeBack s v).p = s.p := by cases m <;> rfl
@[simp] theorem Operand.writeBack_pc (s : State) (m : Operand) (v : Byte) :
    (m.writeBack s v).pc = s.pc := by cases m <;> rfl
@[simp] theorem Operand.writeBack_cycles (s : State) (m : Operand) (v : Byte) :
    (m.writeBack s v).cycles = s.cycles := by cases m <;> rfl
@[simp] theorem Operand.writeBack_opcode (s : State) (m : Operand) (v : Byte) :
    (m.writeBack s v).opcode = s.opcode := by cases m <;> rfl
@[simp] theorem Operand.writeBack_fetched (s : State) (m : Operand) (v : Byte) :
    (m.writeBack s v).fetched = s.fetched := by cases m <;> rfl
@[simp] theorem Operand.writeBack_addrAbs (s : State) (m : Operand) (v : Byte) :
    (m.writeBack s v).addrAbs = s.addrAbs := by cases m <;> rfl
@[simp] theorem Operand.writeBack_addrRel (s : State) (m : Operand) (v : Byte) :
    (m.writeBack s v).addrRel = s.addrRel := by cases m <;> rfl
@[simp] theorem Operand.writeBack_connected (s : State) (m : Operand) (v : Byte) :
    (m.writeBack s v).connected = s.connected := by cases m <;> rfl
@[simp] theorem Operand.writeBack_fault (s : State) (m : Operand) (v : Byte) :
    (m.writeBack s v).fault = s.fault := by cases m <;> rfl
@[simp] theorem Operand.writeBack_refused (s : State) (m : Operand) (v : Byte) :
    (m.writeBack s v).refused = s.refused := by cases m <;> rfl
@[simp] theorem Operand.writeBack_irqLine (s : State) (m : Operand) (v : Byte) :
    (m.writeBack s v).irqLine = s.irqLine := by cases m <;> rfl
@[simp] theorem Operand.writeBack_nmiLine (s : State) (m : Operand) (v : Byte) :
    (m.writeBack s v).nmiLine = s.nmiLine := by cases m <;> rfl
@[simp] theorem Operand.writeBack_nmiPending (s : State) (m : Operand) (v : Byte) :
    (m.writeBack s v).nmiPending = s.nmiPending := by cases m <;> rfl
@[simp] theorem Operand.writeBack_params (s : State) (m : Operand) (v : Byte) :
    (m.writeBack s v).params = s.params := by cases m <;> rfl

@[simp] theorem Operand.writeBack_a (s : State) (m : Operand) (v : Byte) :
    (m.writeBack s v).a = if m = .acc then v else s.a := by cases m <;> rfl

@[simp] theorem Operand.writeBack_mem (s : State) (m : Operand) (v : Byte) :
    (m.writeBack s v).mem = if m = .acc then s.mem else Memory.write s.mem s.addrAbs.toNat v := by cases m <;> rfl

/-! `countDown`: the counter only (R97) -/

@[simp] theorem State.countDown_a (s : State) : s.countDown.a = s.a := by unfold State.countDown; split <;> rfl
@[simp] theorem State.countDown_x (s : State) : s.countDown.x = s.x := by unfold State.countDown; split <;> rfl
@[simp] theorem State.countDown_y (s : State) : s.countDown.y = s.y := by unfold State.countDown; split <;> rfl
@[simp] theorem State.countDown_sp (s : State) : s.countDown.sp = s.sp := by unfold State.countDown; split <;> rfl
@[simp] theorem State.countDown_p (s : State) : s.countDown.p = s.p := by unfold State.countDown; split <;> rfl
@[simp] theorem State.countDown_pc (s : State) : s.countDown.pc = s.pc := by unfold State.countDown; split <;> rfl
@[simp] theorem State.countDown_opcode (s : State) : s.countDown.opcode = s.opcode := by unfold State.countDown; split <;> rfl
@[simp] theorem State.countDown_fetched (s : State) : s.countDown.fetched = s.fetched := by unfold State.countDown; split <;> rfl
@[simp] theorem State.countDown_addrAbs (s : State) : s.countDown.addrAbs = s.addrAbs := by unfold State.countDown; split <;> rfl
@[simp] theorem State.countDown_addrRel (s : State) : s.countDown.addrRel = s.addrRel := by unfold State.countDown; split <;> rfl
@[simp] theorem State.countDown_connected (s : State) : s.countDown.connected = s.connected := by unfold State.countDown; split <;> rfl
@[simp] theorem State.countDown_fault (s : State) : s.countDown.fault = s.fault := by unfold State.countDown; split <;> rfl
@[simp] theorem State.countDown_refused (s : State) : s.countDown.refused = s.refused := by unfold State.countDown; split <;> rfl
@[simp] theorem State.countDown_irqLine (s : State) : s.countDown.irqLine = s.irqLine := by unfold State.countDown; split <;> rfl
@[simp] theorem State.countDown_nmiLine (s : State) : s.countDown.nmiLine = s.nmiLine := by unfold State.countDown; split <;> rfl
@[simp] theorem State.countDown_nmiPending (s : State) : s.countDown.nmiPending = s.nmiPending := by unfold State.countDown; split <;> rfl
@[simp] theorem State.countDown_mem (s : State) : s.countDown.mem = s.mem := by unfold State.countDown; split <;> rfl
@[simp] theorem State.countDown_params (s : State) : s.countDown.params = s.params := by unfold State.countDown; split <;> rfl

theorem State.countDown_of_pos (s : State) (h : s.cycles ≠ 0) : s.countDown = { s with cycles := s.cycles - 1 } :=
  if_neg h

theorem State.countDown_of_zero (s : State) (h : s.cycles = 0) : s.countDown = s := if_pos h

/-! What reads only one part of the state. -/

theorem State.read_of_mem_eq (s t : State) (h : t.mem = s.mem) (addr : Addr) : t.read addr = s.read addr := by
  unfold State.read; rw [h]

theorem State.getFlag_of_p_eq (s t : State) (h : t.p = s.p) (f : Flag) : t.getFlag f = s.getFlag f := by
  unfold State.getFlag; rw [h]

end Sys2Proof.Machine
end

