-- ==== Sys2Proof/Laws/Exec.lean ====
section
/-! SUPPORT. What a fetch tick can do: each arm of `exec` is the fetch tick of its descriptor (R92, R95), and what the
operand of an instruction is in it. -/

namespace Sys2Proof.Machine

theorem onBus_connected {s : State} (h : s.connected = true) (body : State → State) :
    onBus s body = .next (body s) := by
  unfold onBus State.memRead
  rw [if_pos h]

theorem onBus_unconnected {s : State} (h : s.connected = false) (body : State → State) :
    onBus s body = .next { s with fault := some (.unconnected s.pc) } := by
  unfold onBus State.memRead
  rw [if_neg (by simp [h])]

/-- A bus tick answers its body's state, or the fault mark alone (R192). -/
theorem onBus_cases {s t : State} {body : State → State} (h : onBus s body = .next t) :
    (s.connected = true ∧ t = body s) ∨
    (s.connected = false ∧ t = { s with fault := some (.unconnected s.pc) }) := by
  rcases Bool.eq_false_or_eq_true s.connected with hc | hc
  · rw [onBus_connected hc] at h; cases h; exact .inl ⟨hc, rfl⟩
  · rw [onBus_unconnected hc] at h; cases h; exact .inr ⟨hc, rfl⟩

/-- The descriptor of a documented instruction gives its fetch tick. -/
theorem exec_eq_fetchTick (i : Instr) (s : State) (op : Operation) (h : i.mnemonic.operation = some op) :
    exec i s = fetchTick i.opcode i.baseCycles i.operand op s := by
  cases i <;> cases h <;> (simp only [Instr.baseCycles, Instr.opcode, encode, encodeAbs, List.headD_cons]; rfl)

theorem exec_connected {i : Instr} {s : State} {op : Operation} (hc : s.connected = true)
    (h : i.mnemonic.operation = some op) : exec i s = .next (runOperation i.operand op (i.entry s)) := by
  rw [exec_eq_fetchTick i s op h]
  exact onBus_connected hc _

theorem exec_undocumented_eq (op : Byte) (s : State) :
    exec (.undocumented op) s = onBus s (undocumentedFetch op) := rfl

/-- An instruction is documented, with an operation, or undocumented (R92, R93). -/
theorem documented_or_not (i : Instr) :
    (∃ op, i.mnemonic.operation = some op) ∨ ∃ op, i = .undocumented op := by
  cases i <;> first | exact .inl ⟨_, rfl⟩ | exact .inr ⟨_, rfl⟩

/-- `exec` is a bus tick. -/
theorem exec_eq_onBus (i : Instr) (s : State) : ∃ body, exec i s = onBus s body := by
  rcases documented_or_not i with ⟨op, h⟩ | ⟨op, rfl⟩
  · exact ⟨_, exec_eq_fetchTick i s op h⟩
  · exact ⟨_, exec_undocumented_eq op s⟩

theorem exec_unconnected (i : Instr) {s : State} (hc : s.connected = false) :
    exec i s = .next { s with fault := some (.unconnected s.pc) } := by
  obtain ⟨body, h⟩ := exec_eq_onBus i s
  rw [h, onBus_unconnected hc]

theorem exec_undocumented (op : Byte) {s : State} (hc : s.connected = true) :
    exec (.undocumented op) s = .next (undocumentedFetch op s) :=
  onBus_connected hc _

/-- `exec` answers a next state in every state: no instruction stops the machine by itself. -/
theorem exec_answers (i : Instr) (s : State) : ∃ t, exec i s = .next t := by
  obtain ⟨body, h⟩ := exec_eq_onBus i s
  rcases Bool.eq_false_or_eq_true s.connected with hc | hc
  · exact ⟨_, h.trans (onBus_connected hc _)⟩
  · exact ⟨_, exec_unconnected i hc⟩

/-- What `exec` can answer, said once: without the connection the fault mark; an undocumented opcode as the policy has
it; otherwise the operation of the mnemonic on the resolved operand. -/
theorem exec_cases {i : Instr} {s t : State} (h : exec i s = .next t) :
    (s.connected = false ∧ t = { s with fault := some (.unconnected s.pc) }) ∨
    (s.connected = true ∧ (∃ op, i = .undocumented op ∧ t = undocumentedFetch op s)) ∨
    (s.connected = true ∧ ∃ op, i.mnemonic.operation = some op ∧
      t = runOperation i.operand op (i.entry s)) := by
  rcases Bool.eq_false_or_eq_true s.connected with hc | hc
  · rcases documented_or_not i with ⟨op, hm⟩ | ⟨op, rfl⟩
    · rw [exec_connected hc hm] at h; cases h
      exact .inr (.inr ⟨hc, op, hm, rfl⟩)
    · rw [exec_undocumented op hc] at h; cases h
      exact .inr (.inl ⟨hc, op, rfl, rfl⟩)
  · rw [exec_unconnected i hc] at h; cases h
    exact .inl ⟨hc, rfl⟩

/-! A branch writes PC and the counter only (R163). -/

@[simp] theorem branch_a (c : Bool) (s : State) : (branch c s).1.a = s.a := by cases c <;> rfl
@[simp] theorem branch_x (c : Bool) (s : State) : (branch c s).1.x = s.x := by cases c <;> rfl
@[simp] theorem branch_y (c : Bool) (s : State) : (branch c s).1.y = s.y := by cases c <;> rfl
@[simp] theorem branch_sp (c : Bool) (s : State) : (branch c s).1.sp = s.sp := by cases c <;> rfl
@[simp] theorem branch_p (c : Bool) (s : State) : (branch c s).1.p = s.p := by cases c <;> rfl
@[simp] theorem branch_opcode (c : Bool) (s : State) : (branch c s).1.opcode = s.opcode := by cases c <;> rfl
@[simp] theorem branch_fetched (c : Bool) (s : State) : (branch c s).1.fetched = s.fetched := by cases c <;> rfl
@[simp] theorem branch_addrAbs (c : Bool) (s : State) : (branch c s).1.addrAbs = s.addrAbs := by cases c <;> rfl
@[simp] theorem branch_addrRel (c : Bool) (s : State) : (branch c s).1.addrRel = s.addrRel := by cases c <;> rfl
@[simp] theorem branch_connected (c : Bool) (s : State) : (branch c s).1.connected = s.connected := by cases c <;> rfl
@[simp] theorem branch_fault (c : Bool) (s : State) : (branch c s).1.fault = s.fault := by cases c <;> rfl
@[simp] theorem branch_refused (c : Bool) (s : State) : (branch c s).1.refused = s.refused := by cases c <;> rfl
@[simp] theorem branch_irqLine (c : Bool) (s : State) : (branch c s).1.irqLine = s.irqLine := by cases c <;> rfl
@[simp] theorem branch_nmiLine (c : Bool) (s : State) : (branch c s).1.nmiLine = s.nmiLine := by cases c <;> rfl
@[simp] theorem branch_nmiPending (c : Bool) (s : State) : (branch c s).1.nmiPending = s.nmiPending := by cases c <;> rfl
@[simp] theorem branch_mem (c : Bool) (s : State) : (branch c s).1.mem = s.mem := by cases c <;> rfl
@[simp] theorem branch_params (c : Bool) (s : State) : (branch c s).1.params = s.params := by cases c <;> rfl
@[simp] theorem branch_report (c : Bool) (s : State) : (branch c s).2 = false := by cases c <;> rfl
@[simp] theorem branch_pc (c : Bool) (s : State) : (branch c s).1.pc = if c then branchTarget s else s.pc := by
  cases c <;> rfl
@[simp] theorem branch_cycles (c : Bool) (s : State) :
    (branch c s).1.cycles = s.cycles + if c then 1 + bit (pageCross (branchTarget s) s.pc) else 0 := by
  cases c
  · exact (BitVec.add_zero _).symm
  · rfl

/-! The operand of an instruction. -/

@[simp] theorem entry_pc (i : Instr) (s : State) : (i.entry s).pc = s.pc + 1 := rfl
@[simp] theorem entry_mem (i : Instr) (s : State) : (i.entry s).mem = s.mem := rfl
@[simp] theorem entry_a (i : Instr) (s : State) : (i.entry s).a = s.a := rfl
@[simp] theorem entry_x (i : Instr) (s : State) : (i.entry s).x = s.x := rfl
@[simp] theorem entry_y (i : Instr) (s : State) : (i.entry s).y = s.y := rfl
@[simp] theorem entry_sp (i : Instr) (s : State) : (i.entry s).sp = s.sp := rfl
@[simp] theorem entry_p (i : Instr) (s : State) : (i.entry s).p = s.p := rfl
@[simp] theorem entry_cycles (i : Instr) (s : State) : (i.entry s).cycles = i.baseCycles := rfl
@[simp] theorem entry_opcode (i : Instr) (s : State) : (i.entry s).opcode = i.opcode := rfl
@[simp] theorem entry_connected (i : Instr) (s : State) : (i.entry s).connected = s.connected := rfl
@[simp] theorem entry_fault (i : Instr) (s : State) : (i.entry s).fault = s.fault := rfl
@[simp] theorem entry_refused (i : Instr) (s : State) : (i.entry s).refused = s.refused := rfl
@[simp] theorem entry_irqLine (i : Instr) (s : State) : (i.entry s).irqLine = s.irqLine := rfl
@[simp] theorem entry_nmiLine (i : Instr) (s : State) : (i.entry s).nmiLine = s.nmiLine := rfl
@[simp] theorem entry_nmiPending (i : Instr) (s : State) : (i.entry s).nmiPending = s.nmiPending := rfl
@[simp] theorem entry_params (i : Instr) (s : State) : (i.entry s).params = s.params := rfl

theorem target_def (i : Instr) (s : State) : i.operand.address (i.entry s) = i.target s := rfl

/-- The operand byte of an instruction in the state its operation runs in. -/
theorem value_resolve (i : Instr) (s : State) :
    i.operand.value (i.operand.resolve (i.entry s)) = i.source s := by
  unfold Instr.source Instr.target
  cases i.operand <;> rfl

/-- PC past the instruction (R89). -/
theorem entry_pc_add_bytes (i : Instr) (s : State) : s.pc + 1#16 + i.operand.bytes = s.pc + i.length := by
  unfold Instr.length
  rw [BitVec.add_assoc, BitVec.add_comm 1#16]; rfl

/-! The fields of a run operation: those of the operation's state, and the counter with the page-cross cycle (R96). -/

@[simp] theorem runOperation_cycles (m : Operand) (op : Operation) (s : State) :
    (runOperation m op s).cycles =
      (op m (m.resolve s)).1.cycles + bit (m.extraCycle s && (op m (m.resolve s)).2) := rfl

@[simp] theorem runOperation_a (m : Operand) (op : Operation) (s : State) :
    (runOperation m op s).a = (op m (m.resolve s)).1.a := rfl
@[simp] theorem runOperation_x (m : Operand) (op : Operation) (s : State) :
    (runOperation m op s).x = (op m (m.resolve s)).1.x := rfl
@[simp] theorem runOperation_y (m : Operand) (op : Operation) (s : State) :
    (runOperation m op s).y = (op m (m.resolve s)).1.y := rfl
@[simp] theorem runOperation_sp (m : Operand) (op : Operation) (s : State) :
    (runOperation m op s).sp = (op m (m.resolve s)).1.sp := rfl
@[simp] theorem runOperation_pc (m : Operand) (op : Operation) (s : State) :
    (runOperation m op s).pc = (op m (m.resolve s)).1.pc := rfl
@[simp] theorem runOperation_opcode (m : Operand) (op : Operation) (s : State) :
    (runOperation m op s).opcode = (op m (m.resolve s)).1.opcode := rfl
@[simp] theorem runOperation_fetched (m : Operand) (op : Operation) (s : State) :
    (runOperation m op s).fetched = (op m (m.resolve s)).1.fetched := rfl
@[simp] theorem runOperation_addrAbs (m : Operand) (op : Operation) (s : State) :
    (runOperation m op s).addrAbs = (op m (m.resolve s)).1.addrAbs := rfl
@[simp] theorem runOperation_addrRel (m : Operand) (op : Operation) (s : State) :
    (runOperation m op s).addrRel = (op m (m.resolve s)).1.addrRel := rfl
@[simp] theorem runOperation_connected (m : Operand) (op : Operation) (s : State) :
    (runOperation m op s).connected = (op m (m.resolve s)).1.connected := rfl
@[simp] theorem runOperation_fault (m : Operand) (op : Operation) (s : State) :
    (runOperation m op s).fault = (op m (m.resolve s)).1.fault := rfl
@[simp] theorem runOperation_refused (m : Operand) (op : Operation) (s : State) :
    (runOperation m op s).refused = (op m (m.resolve s)).1.refused := rfl
@[simp] theorem runOperation_irqLine (m : Operand) (op : Operation) (s : State) :
    (runOperation m op s).irqLine = (op m (m.resolve s)).1.irqLine := rfl
@[simp] theorem runOperation_nmiLine (m : Operand) (op : Operation) (s : State) :
    (runOperation m op s).nmiLine = (op m (m.resolve s)).1.nmiLine := rfl
@[simp] theorem runOperation_nmiPending (m : Operand) (op : Operation) (s : State) :
    (runOperation m op s).nmiPending = (op m (m.resolve s)).1.nmiPending := rfl
@[simp] theorem runOperation_mem (m : Operand) (op : Operation) (s : State) :
    (runOperation m op s).mem = (op m (m.resolve s)).1.mem := rfl
@[simp] theorem runOperation_params (m : Operand) (op : Operation) (s : State) :
    (runOperation m op s).params = (op m (m.resolve s)).1.params := rfl
@[simp] theorem runOperation_p (m : Operand) (op : Operation) (s : State) :
    (runOperation m op s).p = (op m (m.resolve s)).1.p := rfl

end Sys2Proof.Machine
end

