-- ==== Sys2Proof/Laws/Memory.lean ====
section
/-! SUPPORT. The basic laws of memory: a write is read back, leaves every other address alone, and keeps the
canonical form. -/

namespace Sys2Proof.Machine

/-- Every listed address is above `a`. -/
def Memory.above (a : Nat) (m : Memory) : Prop := ∀ k v, (k, v) ∈ m → a < k

theorem Memory.wf_cons (k : Nat) (v : Byte) (m : Memory) :
    Memory.wf ((k, v) :: m) = true ↔
      k < Config.memSize ∧ v ≠ Config.unwrittenByte ∧ Memory.above k m ∧ Memory.wf m = true := by
  induction m generalizing k v with
  | nil => simp [Memory.wf, Memory.above]
  | cons c m ih =>
    obtain ⟨k', v'⟩ := c
    simp only [Memory.wf, Bool.and_eq_true, decide_eq_true_eq, bne_iff_ne]
    constructor
    · rintro ⟨⟨hk, hv⟩, hm⟩
      have h := (ih k' v').1 hm
      refine ⟨by omega, hv, ?_, hm⟩
      intro j w hj
      rcases List.mem_cons.1 hj with hj | hj
      · cases hj; exact hk
      · have := h.2.2.1 j w hj; omega
    · rintro ⟨_, hv, ha, hm⟩
      exact ⟨⟨ha k' v' (List.mem_cons_self ..), hv⟩, hm⟩

theorem Memory.wf_nil : Memory.wf [] = true := rfl

theorem Memory.mem_write {m : Memory} {a k : Nat} {v w : Byte} (h : (k, w) ∈ Memory.write m a v) :
    k = a ∨ (k, w) ∈ m := by
  induction m with
  | nil => unfold Memory.write at h; split at h <;> simp_all
  | cons c m ih =>
    obtain ⟨k', w'⟩ := c
    unfold Memory.write at h
    split at h
    · split at h <;> simp_all
      tauto
    · split at h
      · split at h <;> simp_all
        tauto
      · rcases List.mem_cons.1 h with h | h
        · exact .inr (h ▸ List.mem_cons_self ..)
        · rcases ih h with h | h
          · exact .inl h
          · exact .inr (List.mem_cons_of_mem _ h)

/-- A write inside the address space keeps the canonical form. -/
theorem Memory.wf_write {m : Memory} {a : Nat} {v : Byte} (ha : a < Config.memSize) (hm : Memory.wf m = true) :
    Memory.wf (Memory.write m a v) = true := by
  induction m with
  | nil => unfold Memory.write; split <;> simp_all [Memory.wf]
  | cons c m ih =>
    obtain ⟨k, w⟩ := c
    have hc := (Memory.wf_cons k w m).1 hm
    unfold Memory.write
    split
    · split
      · exact hm
      · refine (Memory.wf_cons _ _ _).2 ⟨ha, ‹_›, ?_, hm⟩
        intro j u hj
        rcases List.mem_cons.1 hj with hj | hj
        · cases hj; assumption
        · have := hc.2.2.1 j u hj; omega
    · split
      · split
        · exact hc.2.2.2
        · exact (Memory.wf_cons _ _ _).2 ⟨ha, ‹_›, by subst a; exact hc.2.2.1, hc.2.2.2⟩
      · refine (Memory.wf_cons _ _ _).2 ⟨hc.1, hc.2.1, ?_, ih hc.2.2.2⟩
        intro j u hj
        rcases Memory.mem_write hj with hj | hj
        · omega
        · exact hc.2.2.1 j u hj

theorem Memory.read_of_above {m : Memory} {a : Nat} (h : Memory.above a m) : Memory.read m a = Config.unwrittenByte := by
  induction m with
  | nil => rfl
  | cons c m ih =>
    obtain ⟨k, w⟩ := c
    have := h k w (List.mem_cons_self ..)
    unfold Memory.read
    rw [if_neg (by omega)]
    exact ih fun j u hj => h j u (List.mem_cons_of_mem _ hj)

/-- The last written value is read back (R51, R53, R54). -/
theorem Memory.read_write_self {m : Memory} (a : Nat) (v : Byte) (hm : Memory.wf m = true) :
    Memory.read (Memory.write m a v) a = v := by
  induction m with
  | nil => unfold Memory.write; split <;> simp_all [Memory.read]
  | cons c m ih =>
    obtain ⟨k, w⟩ := c
    have hc := (Memory.wf_cons k w m).1 hm
    unfold Memory.write
    split
    · split
      · subst v
        refine Memory.read_of_above fun j u hj => ?_
        rcases List.mem_cons.1 hj with hj | hj
        · cases hj; assumption
        · have := hc.2.2.1 j u hj; omega
      · simp [Memory.read]
    · split
      · split
        · subst v; subst a; exact Memory.read_of_above hc.2.2.1
        · simp [Memory.read]
      · unfold Memory.read
        rw [if_neg (by omega)]
        exact ih hc.2.2.2

/-- A write changes one byte and nothing else (R54). -/
theorem Memory.read_write_other {m : Memory} {a b : Nat} (v : Byte) (h : b ≠ a) :
    Memory.read (Memory.write m a v) b = Memory.read m b := by
  induction m with
  | nil =>
    unfold Memory.write
    split
    · rfl
    · simp [Memory.read, Ne.symm h]
  | cons c m ih =>
    obtain ⟨k, w⟩ := c
    unfold Memory.write
    split
    · split
      · rfl
      · simp [Memory.read, Ne.symm h]
    · split
      · subst a
        split <;> simp [Memory.read, Ne.symm h]
      · simp only [Memory.read, ih]

theorem addr_lt_memSize (a : Addr) : a.toNat < Config.memSize := a.isLt

theorem State.wf_write (s : State) (addr : Addr) (v : Byte) (hm : Memory.wf s.mem = true) :
    Memory.wf (s.write addr v).mem = true :=
  Memory.wf_write (addr_lt_memSize addr) hm

theorem State.read_write_self (s : State) (addr : Addr) (v : Byte) (hm : Memory.wf s.mem = true) :
    (s.write addr v).read addr = v :=
  Memory.read_write_self _ _ hm

theorem State.read_write_other (s : State) (addr b : Addr) (v : Byte) (h : b ≠ addr) :
    (s.write addr v).read b = s.read b :=
  Memory.read_write_other _ fun e => h (BitVec.eq_of_toNat_eq e)

/-- The pulled byte of a push (R60, R61). -/
theorem State.pulled_push (s : State) (v : Byte) (hm : Memory.wf s.mem = true) : (s.push v).pulled = v := by
  have e : (s.push v).sp + 1 = s.sp := by
    show s.sp - 1 + 1 = s.sp
    exact BitVec.sub_add_cancel ..
  unfold State.pulled
  rw [e]
  exact State.read_write_self s _ v hm

end Sys2Proof.Machine
end

