-- ==== Sys2Proof/Laws/PerInstr.lean ====
section
/-! SUPPORT. One family of facts per instruction: its length, read from its opcode alone (R100). -/

namespace Sys2Proof.Laws.LengthFromOpcode

open Sys2Proof

/-- R100: the encoding is as long as the table row of its opcode says. -/
def Statement (i : Instr) : Prop :=
  i.wellFormed = true → (encode i).length = opcodeLength i.opcode

theorem of_opcode (i : Instr) (op : Byte) (hop : i.opcode = op) (hlen : (encode i).length = opcodeLength op) :
    Statement i := fun _ => hop ▸ hlen

theorem ldaImm (v : Byte) : Statement (.ldaImm v) := of_opcode _ 0xA9#8 rfl rfl
theorem ldaZp0 (v : Byte) : Statement (.ldaZp0 v) := of_opcode _ 0xA5#8 rfl rfl
theorem ldaZpx (v : Byte) : Statement (.ldaZpx v) := of_opcode _ 0xB5#8 rfl rfl
theorem ldaAbs (v : Addr) : Statement (.ldaAbs v) := of_opcode _ 0xAD#8 rfl rfl
theorem ldaAbx (v : Addr) : Statement (.ldaAbx v) := of_opcode _ 0xBD#8 rfl rfl
theorem ldaAby (v : Addr) : Statement (.ldaAby v) := of_opcode _ 0xB9#8 rfl rfl
theorem ldaIzx (v : Byte) : Statement (.ldaIzx v) := of_opcode _ 0xA1#8 rfl rfl
theorem ldaIzy (v : Byte) : Statement (.ldaIzy v) := of_opcode _ 0xB1#8 rfl rfl
theorem ldxImm (v : Byte) : Statement (.ldxImm v) := of_opcode _ 0xA2#8 rfl rfl
theorem ldxZp0 (v : Byte) : Statement (.ldxZp0 v) := of_opcode _ 0xA6#8 rfl rfl
theorem ldxZpy (v : Byte) : Statement (.ldxZpy v) := of_opcode _ 0xB6#8 rfl rfl
theorem ldxAbs (v : Addr) : Statement (.ldxAbs v) := of_opcode _ 0xAE#8 rfl rfl
theorem ldxAby (v : Addr) : Statement (.ldxAby v) := of_opcode _ 0xBE#8 rfl rfl
theorem ldyImm (v : Byte) : Statement (.ldyImm v) := of_opcode _ 0xA0#8 rfl rfl
theorem ldyZp0 (v : Byte) : Statement (.ldyZp0 v) := of_opcode _ 0xA4#8 rfl rfl
theorem ldyZpx (v : Byte) : Statement (.ldyZpx v) := of_opcode _ 0xB4#8 rfl rfl
theorem ldyAbs (v : Addr) : Statement (.ldyAbs v) := of_opcode _ 0xAC#8 rfl rfl
theorem ldyAbx (v : Addr) : Statement (.ldyAbx v) := of_opcode _ 0xBC#8 rfl rfl
theorem staZp0 (v : Byte) : Statement (.staZp0 v) := of_opcode _ 0x85#8 rfl rfl
theorem staZpx (v : Byte) : Statement (.staZpx v) := of_opcode _ 0x95#8 rfl rfl
theorem staAbs (v : Addr) : Statement (.staAbs v) := of_opcode _ 0x8D#8 rfl rfl
theorem staAbx (v : Addr) : Statement (.staAbx v) := of_opcode _ 0x9D#8 rfl rfl
theorem staAby (v : Addr) : Statement (.staAby v) := of_opcode _ 0x99#8 rfl rfl
theorem staIzx (v : Byte) : Statement (.staIzx v) := of_opcode _ 0x81#8 rfl rfl
theorem staIzy (v : Byte) : Statement (.staIzy v) := of_opcode _ 0x91#8 rfl rfl
theorem stxZp0 (v : Byte) : Statement (.stxZp0 v) := of_opcode _ 0x86#8 rfl rfl
theorem stxZpy (v : Byte) : Statement (.stxZpy v) := of_opcode _ 0x96#8 rfl rfl
theorem stxAbs (v : Addr) : Statement (.stxAbs v) := of_opcode _ 0x8E#8 rfl rfl
theorem styZp0 (v : Byte) : Statement (.styZp0 v) := of_opcode _ 0x84#8 rfl rfl
theorem styZpx (v : Byte) : Statement (.styZpx v) := of_opcode _ 0x94#8 rfl rfl
theorem styAbs (v : Addr) : Statement (.styAbs v) := of_opcode _ 0x8C#8 rfl rfl
theorem tax : Statement .tax := of_opcode _ 0xAA#8 rfl rfl
theorem tay : Statement .tay := of_opcode _ 0xA8#8 rfl rfl
theorem txa : Statement .txa := of_opcode _ 0x8A#8 rfl rfl
theorem tya : Statement .tya := of_opcode _ 0x98#8 rfl rfl
theorem tsx : Statement .tsx := of_opcode _ 0xBA#8 rfl rfl
theorem txs : Statement .txs := of_opcode _ 0x9A#8 rfl rfl
theorem pha : Statement .pha := of_opcode _ 0x48#8 rfl rfl
theorem php : Statement .php := of_opcode _ 0x08#8 rfl rfl
theorem pla : Statement .pla := of_opcode _ 0x68#8 rfl rfl
theorem plp : Statement .plp := of_opcode _ 0x28#8 rfl rfl
theorem adcImm (v : Byte) : Statement (.adcImm v) := of_opcode _ 0x69#8 rfl rfl
theorem adcZp0 (v : Byte) : Statement (.adcZp0 v) := of_opcode _ 0x65#8 rfl rfl
theorem adcZpx (v : Byte) : Statement (.adcZpx v) := of_opcode _ 0x75#8 rfl rfl
theorem adcAbs (v : Addr) : Statement (.adcAbs v) := of_opcode _ 0x6D#8 rfl rfl
theorem adcAbx (v : Addr) : Statement (.adcAbx v) := of_opcode _ 0x7D#8 rfl rfl
theorem adcAby (v : Addr) : Statement (.adcAby v) := of_opcode _ 0x79#8 rfl rfl
theorem adcIzx (v : Byte) : Statement (.adcIzx v) := of_opcode _ 0x61#8 rfl rfl
theorem adcIzy (v : Byte) : Statement (.adcIzy v) := of_opcode _ 0x71#8 rfl rfl
theorem sbcImm (v : Byte) : Statement (.sbcImm v) := of_opcode _ 0xE9#8 rfl rfl
theorem sbcZp0 (v : Byte) : Statement (.sbcZp0 v) := of_opcode _ 0xE5#8 rfl rfl
theorem sbcZpx (v : Byte) : Statement (.sbcZpx v) := of_opcode _ 0xF5#8 rfl rfl
theorem sbcAbs (v : Addr) : Statement (.sbcAbs v) := of_opcode _ 0xED#8 rfl rfl
theorem sbcAbx (v : Addr) : Statement (.sbcAbx v) := of_opcode _ 0xFD#8 rfl rfl
theorem sbcAby (v : Addr) : Statement (.sbcAby v) := of_opcode _ 0xF9#8 rfl rfl
theorem sbcIzx (v : Byte) : Statement (.sbcIzx v) := of_opcode _ 0xE1#8 rfl rfl
theorem sbcIzy (v : Byte) : Statement (.sbcIzy v) := of_opcode _ 0xF1#8 rfl rfl
theorem cmpImm (v : Byte) : Statement (.cmpImm v) := of_opcode _ 0xC9#8 rfl rfl
theorem cmpZp0 (v : Byte) : Statement (.cmpZp0 v) := of_opcode _ 0xC5#8 rfl rfl
theorem cmpZpx (v : Byte) : Statement (.cmpZpx v) := of_opcode _ 0xD5#8 rfl rfl
theorem cmpAbs (v : Addr) : Statement (.cmpAbs v) := of_opcode _ 0xCD#8 rfl rfl
theorem cmpAbx (v : Addr) : Statement (.cmpAbx v) := of_opcode _ 0xDD#8 rfl rfl
theorem cmpAby (v : Addr) : Statement (.cmpAby v) := of_opcode _ 0xD9#8 rfl rfl
theorem cmpIzx (v : Byte) : Statement (.cmpIzx v) := of_opcode _ 0xC1#8 rfl rfl
theorem cmpIzy (v : Byte) : Statement (.cmpIzy v) := of_opcode _ 0xD1#8 rfl rfl
theorem cpxImm (v : Byte) : Statement (.cpxImm v) := of_opcode _ 0xE0#8 rfl rfl
theorem cpxZp0 (v : Byte) : Statement (.cpxZp0 v) := of_opcode _ 0xE4#8 rfl rfl
theorem cpxAbs (v : Addr) : Statement (.cpxAbs v) := of_opcode _ 0xEC#8 rfl rfl
theorem cpyImm (v : Byte) : Statement (.cpyImm v) := of_opcode _ 0xC0#8 rfl rfl
theorem cpyZp0 (v : Byte) : Statement (.cpyZp0 v) := of_opcode _ 0xC4#8 rfl rfl
theorem cpyAbs (v : Addr) : Statement (.cpyAbs v) := of_opcode _ 0xCC#8 rfl rfl
theorem incZp0 (v : Byte) : Statement (.incZp0 v) := of_opcode _ 0xE6#8 rfl rfl
theorem incZpx (v : Byte) : Statement (.incZpx v) := of_opcode _ 0xF6#8 rfl rfl
theorem incAbs (v : Addr) : Statement (.incAbs v) := of_opcode _ 0xEE#8 rfl rfl
theorem incAbx (v : Addr) : Statement (.incAbx v) := of_opcode _ 0xFE#8 rfl rfl
theorem decZp0 (v : Byte) : Statement (.decZp0 v) := of_opcode _ 0xC6#8 rfl rfl
theorem decZpx (v : Byte) : Statement (.decZpx v) := of_opcode _ 0xD6#8 rfl rfl
theorem decAbs (v : Addr) : Statement (.decAbs v) := of_opcode _ 0xCE#8 rfl rfl
theorem decAbx (v : Addr) : Statement (.decAbx v) := of_opcode _ 0xDE#8 rfl rfl
theorem inx : Statement .inx := of_opcode _ 0xE8#8 rfl rfl
theorem iny : Statement .iny := of_opcode _ 0xC8#8 rfl rfl
theorem dex : Statement .dex := of_opcode _ 0xCA#8 rfl rfl
theorem dey : Statement .dey := of_opcode _ 0x88#8 rfl rfl
theorem andImm (v : Byte) : Statement (.andImm v) := of_opcode _ 0x29#8 rfl rfl
theorem andZp0 (v : Byte) : Statement (.andZp0 v) := of_opcode _ 0x25#8 rfl rfl
theorem andZpx (v : Byte) : Statement (.andZpx v) := of_opcode _ 0x35#8 rfl rfl
theorem andAbs (v : Addr) : Statement (.andAbs v) := of_opcode _ 0x2D#8 rfl rfl
theorem andAbx (v : Addr) : Statement (.andAbx v) := of_opcode _ 0x3D#8 rfl rfl
theorem andAby (v : Addr) : Statement (.andAby v) := of_opcode _ 0x39#8 rfl rfl
theorem andIzx (v : Byte) : Statement (.andIzx v) := of_opcode _ 0x21#8 rfl rfl
theorem andIzy (v : Byte) : Statement (.andIzy v) := of_opcode _ 0x31#8 rfl rfl
theorem eorImm (v : Byte) : Statement (.eorImm v) := of_opcode _ 0x49#8 rfl rfl
theorem eorZp0 (v : Byte) : Statement (.eorZp0 v) := of_opcode _ 0x45#8 rfl rfl
theorem eorZpx (v : Byte) : Statement (.eorZpx v) := of_opcode _ 0x55#8 rfl rfl
theorem eorAbs (v : Addr) : Statement (.eorAbs v) := of_opcode _ 0x4D#8 rfl rfl
theorem eorAbx (v : Addr) : Statement (.eorAbx v) := of_opcode _ 0x5D#8 rfl rfl
theorem eorAby (v : Addr) : Statement (.eorAby v) := of_opcode _ 0x59#8 rfl rfl
theorem eorIzx (v : Byte) : Statement (.eorIzx v) := of_opcode _ 0x41#8 rfl rfl
theorem eorIzy (v : Byte) : Statement (.eorIzy v) := of_opcode _ 0x51#8 rfl rfl
theorem oraImm (v : Byte) : Statement (.oraImm v) := of_opcode _ 0x09#8 rfl rfl
theorem oraZp0 (v : Byte) : Statement (.oraZp0 v) := of_opcode _ 0x05#8 rfl rfl
theorem oraZpx (v : Byte) : Statement (.oraZpx v) := of_opcode _ 0x15#8 rfl rfl
theorem oraAbs (v : Addr) : Statement (.oraAbs v) := of_opcode _ 0x0D#8 rfl rfl
theorem oraAbx (v : Addr) : Statement (.oraAbx v) := of_opcode _ 0x1D#8 rfl rfl
theorem oraAby (v : Addr) : Statement (.oraAby v) := of_opcode _ 0x19#8 rfl rfl
theorem oraIzx (v : Byte) : Statement (.oraIzx v) := of_opcode _ 0x01#8 rfl rfl
theorem oraIzy (v : Byte) : Statement (.oraIzy v) := of_opcode _ 0x11#8 rfl rfl
theorem bitZp0 (v : Byte) : Statement (.bitZp0 v) := of_opcode _ 0x24#8 rfl rfl
theorem bitAbs (v : Addr) : Statement (.bitAbs v) := of_opcode _ 0x2C#8 rfl rfl
theorem aslAcc : Statement .aslAcc := of_opcode _ 0x0A#8 rfl rfl
theorem aslZp0 (v : Byte) : Statement (.aslZp0 v) := of_opcode _ 0x06#8 rfl rfl
theorem aslZpx (v : Byte) : Statement (.aslZpx v) := of_opcode _ 0x16#8 rfl rfl
theorem aslAbs (v : Addr) : Statement (.aslAbs v) := of_opcode _ 0x0E#8 rfl rfl
theorem aslAbx (v : Addr) : Statement (.aslAbx v) := of_opcode _ 0x1E#8 rfl rfl
theorem lsrAcc : Statement .lsrAcc := of_opcode _ 0x4A#8 rfl rfl
theorem lsrZp0 (v : Byte) : Statement (.lsrZp0 v) := of_opcode _ 0x46#8 rfl rfl
theorem lsrZpx (v : Byte) : Statement (.lsrZpx v) := of_opcode _ 0x56#8 rfl rfl
theorem lsrAbs (v : Addr) : Statement (.lsrAbs v) := of_opcode _ 0x4E#8 rfl rfl
theorem lsrAbx (v : Addr) : Statement (.lsrAbx v) := of_opcode _ 0x5E#8 rfl rfl
theorem rolAcc : Statement .rolAcc := of_opcode _ 0x2A#8 rfl rfl
theorem rolZp0 (v : Byte) : Statement (.rolZp0 v) := of_opcode _ 0x26#8 rfl rfl
theorem rolZpx (v : Byte) : Statement (.rolZpx v) := of_opcode _ 0x36#8 rfl rfl
theorem rolAbs (v : Addr) : Statement (.rolAbs v) := of_opcode _ 0x2E#8 rfl rfl
theorem rolAbx (v : Addr) : Statement (.rolAbx v) := of_opcode _ 0x3E#8 rfl rfl
theorem rorAcc : Statement .rorAcc := of_opcode _ 0x6A#8 rfl rfl
theorem rorZp0 (v : Byte) : Statement (.rorZp0 v) := of_opcode _ 0x66#8 rfl rfl
theorem rorZpx (v : Byte) : Statement (.rorZpx v) := of_opcode _ 0x76#8 rfl rfl
theorem rorAbs (v : Addr) : Statement (.rorAbs v) := of_opcode _ 0x6E#8 rfl rfl
theorem rorAbx (v : Addr) : Statement (.rorAbx v) := of_opcode _ 0x7E#8 rfl rfl
theorem jsr (v : Addr) : Statement (.jsr v) := of_opcode _ 0x20#8 rfl rfl
theorem rts : Statement .rts := of_opcode _ 0x60#8 rfl rfl
theorem bcc (v : Byte) : Statement (.bcc v) := of_opcode _ 0x90#8 rfl rfl
theorem bcs (v : Byte) : Statement (.bcs v) := of_opcode _ 0xB0#8 rfl rfl
theorem beq (v : Byte) : Statement (.beq v) := of_opcode _ 0xF0#8 rfl rfl
theorem bmi (v : Byte) : Statement (.bmi v) := of_opcode _ 0x30#8 rfl rfl
theorem bne (v : Byte) : Statement (.bne v) := of_opcode _ 0xD0#8 rfl rfl
theorem bpl (v : Byte) : Statement (.bpl v) := of_opcode _ 0x10#8 rfl rfl
theorem bvc (v : Byte) : Statement (.bvc v) := of_opcode _ 0x50#8 rfl rfl
theorem bvs (v : Byte) : Statement (.bvs v) := of_opcode _ 0x70#8 rfl rfl
theorem jmpAbs (v : Addr) : Statement (.jmpAbs v) := of_opcode _ 0x4C#8 rfl rfl
theorem jmpInd (v : Addr) : Statement (.jmpInd v) := of_opcode _ 0x6C#8 rfl rfl
theorem clc : Statement .clc := of_opcode _ 0x18#8 rfl rfl
theorem cld : Statement .cld := of_opcode _ 0xD8#8 rfl rfl
theorem cli : Statement .cli := of_opcode _ 0x58#8 rfl rfl
theorem clv : Statement .clv := of_opcode _ 0xB8#8 rfl rfl
theorem sec : Statement .sec := of_opcode _ 0x38#8 rfl rfl
theorem sed : Statement .sed := of_opcode _ 0xF8#8 rfl rfl
theorem sei : Statement .sei := of_opcode _ 0x78#8 rfl rfl
theorem brk : Statement .brk := of_opcode _ 0x00#8 rfl rfl
theorem rti : Statement .rti := of_opcode _ 0x40#8 rfl rfl
theorem nop : Statement .nop := of_opcode _ 0xEA#8 rfl rfl

theorem undocumented (op : Byte) : Statement (.undocumented op) := by
  intro h
  have key : ∀ b : Byte, isUndocumented b = true → 1 = opcodeLength b := by decide
  exact key op h

end Sys2Proof.Laws.LengthFromOpcode
end

