-- ==== Sys2Proof/Laws/RunsTo.lean ====
section
/-! SUPPORT. How a claim `RunsTo` is met: the operation of the mnemonic, the visible state it leaves, its flags. -/

namespace Sys2Proof.Machine

theorem runsTo_intro {i : Instr} {s : State} {op : Operation} {v : Visible} {flags : List (Flag × Bool)}
    (hc : s.connected = true) (hop : i.mnemonic.operation = some op)
    (hv : (runOperation i.operand op (i.entry s)).visible =
      { v with p := (runOperation i.operand op (i.entry s)).p })
    (hf : ∀ f, (runOperation i.operand op (i.entry s)).getFlag f = (flags.lookup f).getD (s.getFlag f)) :
    RunsTo i s v flags :=
  ⟨_, exec_connected hc hop, hv, hf⟩

theorem operation_of_mnemonic {i : Instr} {m : Mnemonic} {op : Operation} (h : i.mnemonic = m)
    (ho : m.operation = some op) : i.mnemonic.operation = some op :=
  h ▸ ho

/-- The flags of a run operation, from the status byte its operation leaves. -/
theorem flags_of_status {i : Instr} {s : State} {op : Operation} {flags : List (Flag × Bool)} {p : Byte}
    (hp : (op i.operand (i.operand.resolve (i.entry s))).1.p = p)
    (hf : ∀ f, statusFlag p f = (flags.lookup f).getD (s.getFlag f)) (f : Flag) :
    (runOperation i.operand op (i.entry s)).getFlag f = (flags.lookup f).getD (s.getFlag f) := by
  rw [← hf f]
  unfold State.getFlag
  rw [runOperation_p, hp]

/-- Z and N of a result, the other flags as they were (R10). -/
theorem statusFlag_zn (s : State) (v : Byte) (f : Flag) :
    statusFlag (statusWith (statusWith s.p .z (v == 0x00#8)) .n (v.getLsbD 7)) f =
      ((zn v).lookup f).getD (s.getFlag f) := by
  rw [statusFlag_statusWith, statusFlag_statusWith]
  cases f <;> rfl

theorem resolve_read (i : Instr) (s : State) (addr : Addr) :
    (i.operand.resolve (i.entry s)).read addr = s.read addr :=
  State.read_of_mem_eq _ _ (by simp) addr

theorem resolve_getFlag (i : Instr) (s : State) (f : Flag) :
    (i.operand.resolve (i.entry s)).getFlag f = s.getFlag f :=
  State.getFlag_of_p_eq _ _ (by simp) f

theorem fetch_getFlag (i : Instr) (s : State) (f : Flag) :
    (i.operand.fetch (i.operand.resolve (i.entry s))).getFlag f = s.getFlag f :=
  State.getFlag_of_p_eq _ _ (by simp) f

/-- Only the nine mnemonics of R94 can be charged the page-cross cycle. -/
theorem pageCycle_of_not_reports {i : Instr} (s : State) (h : i.mnemonic.reportsExtra = false) : i.pageCycle s = 0 := by
  unfold Instr.pageCycle
  rw [h, Bool.and_false]
  rfl

end Sys2Proof.Machine
end

