-- ==== Sys2Proof/Laws/Step.lean ====
section
/-! SUPPORT. What a tick can do, said once: the interrupt entry, the cases of `step`, and what every operation and
every tick keeps. -/

namespace Sys2Proof.Machine

/-! The interrupt entry (R202) and the undocumented fetch (R186), field by field. -/

@[simp] theorem interruptEntry_a (v : Addr) (s : State) : (interruptEntry v s).a = s.a := by simp [interruptEntry]
@[simp] theorem interruptEntry_x (v : Addr) (s : State) : (interruptEntry v s).x = s.x := by simp [interruptEntry]
@[simp] theorem interruptEntry_y (v : Addr) (s : State) : (interruptEntry v s).y = s.y := by simp [interruptEntry]
@[simp] theorem interruptEntry_sp (v : Addr) (s : State) : (interruptEntry v s).sp = s.sp - 1 - 1 - 1 := by simp [interruptEntry]
@[simp] theorem interruptEntry_p (v : Addr) (s : State) : (interruptEntry v s).p = statusWith s.p .i true := by simp [interruptEntry]
@[simp] theorem interruptEntry_pc (v : Addr) (s : State) :
    (interruptEntry v s).pc = ((s.push16 s.pc).push (pushedByInterrupt s.p)).read16 v := by simp [interruptEntry]
@[simp] theorem interruptEntry_cycles (v : Addr) (s : State) : (interruptEntry v s).cycles = 7#8 := by simp [interruptEntry]
@[simp] theorem interruptEntry_mem (v : Addr) (s : State) :
    (interruptEntry v s).mem = ((s.push16 s.pc).push (pushedByInterrupt s.p)).mem := by simp [interruptEntry]
@[simp] theorem interruptEntry_connected (v : Addr) (s : State) : (interruptEntry v s).connected = s.connected := by simp [interruptEntry]
@[simp] theorem interruptEntry_fault (v : Addr) (s : State) : (interruptEntry v s).fault = s.fault := by simp [interruptEntry]
@[simp] theorem interruptEntry_refused (v : Addr) (s : State) : (interruptEntry v s).refused = s.refused := by simp [interruptEntry]
@[simp] theorem interruptEntry_irqLine (v : Addr) (s : State) : (interruptEntry v s).irqLine = s.irqLine := by simp [interruptEntry]
@[simp] theorem interruptEntry_nmiLine (v : Addr) (s : State) : (interruptEntry v s).nmiLine = s.nmiLine := by simp [interruptEntry]
@[simp] theorem interruptEntry_nmiPending (v : Addr) (s : State) :
    (interruptEntry v s).nmiPending = if v = nmiVector then false else s.nmiPending := by simp [interruptEntry]
@[simp] theorem interruptEntry_params (v : Addr) (s : State) : (interruptEntry v s).params = s.params := by simp [interruptEntry]

/-- The decrement of a tick touches the counter alone (R97). -/
theorem State.countDown_eq (s : State) : s.countDown = { s with cycles := s.countDown.cycles } := by
  unfold State.countDown
  split <;> rfl

theorem State.countDown_cycles_toNat (s : State) : s.countDown.cycles.toNat = s.cycles.toNat - 1 := by
  unfold State.countDown
  split
  · rename_i h
    rw [h]; rfl
  · rename_i h
    have : s.cycles.toNat ≠ 0 := fun e => h (BitVec.eq_of_toNat_eq e)
    show (s.cycles - 1).toNat = _
    rw [BitVec.toNat_sub]
    have := s.cycles.isLt
    simp
    omega

/-- What a tick can do, said once. -/
theorem step_cases {s t : State} (h : step s = .next t) :
    s.Running ∧
    ((s.cycles ≠ 0 ∧ t = s.countDown) ∨
     (s.cycles = 0 ∧ s.connected = false ∧ t = { s with fault := some (.unconnected s.pc) }) ∨
     (s.cycles = 0 ∧ s.connected = true ∧ ∃ v, pendingInterrupt s = some v ∧ t = (interruptEntry v s).countDown) ∨
     (s.cycles = 0 ∧ s.connected = true ∧ pendingInterrupt s = none ∧
       ∃ u, exec (fetchInstr s) s = .next u ∧ t = u.countDown)) := by
  unfold step at h
  split at h
  · cases h
  · cases h
  · rename_i hf hr
    refine ⟨⟨hf, hr⟩, ?_⟩
    split at h
    · rename_i h0
      have hz : ({ s with fault := some (.unconnected s.pc) } : State).countDown =
          { s with fault := some (.unconnected s.pc) } := if_pos h0
      refine .inr ?_
      unfold idleTick at h
      rcases Bool.eq_false_or_eq_true s.connected with hc | hc
      · refine .inr ?_
        split at h
        · rename_i v hv
          rw [onBus_connected hc] at h
          cases h
          exact .inl ⟨h0, hc, v, hv, rfl⟩
        · rename_i hv
          obtain ⟨u, hu⟩ := exec_answers (fetchInstr s) s
          rw [hu] at h
          cases h
          exact .inr ⟨h0, hc, hv, u, hu, rfl⟩
      · refine .inl ⟨h0, hc, ?_⟩
        split at h
        · rw [onBus_unconnected hc] at h
          cases h
          exact hz
        · rw [exec_unconnected _ hc] at h
          cases h
          exact hz
    · rename_i h0
      cases h
      exact .inl ⟨h0, rfl⟩

/-- An Idle tick of a running, connected machine with no interrupt to take is the decremented meaning (R95). -/
theorem step_fetch {s : State} (h : s.FetchesNext) : step s = endTick (exec (fetchInstr s) s) := by
  unfold step
  rw [h.running.1, h.running.2]
  simp only [h.idle, if_true]
  unfold idleTick
  rw [h.noInterrupt]

/-- A tick that does not fetch only counts down (R97). -/
theorem step_executing {s : State} (h : s.Running) (h0 : s.cycles ≠ 0) : step s = .next s.countDown := by
  unfold step
  rw [h.1, h.2]
  simp only [h0, if_false]

/-! Runs of ticks. -/

/-- The run of a machine one step on (Host/Core.lean). -/
theorem machine_run_next (M : Host.Core) (n : Nat) {s t : M.State} (h : M.step s = .next t) :
    M.run (n + 1) s = M.run n t := by
  rw [Host.Core.run, h]

/-- If `n` steps of a machine answer a next state, `n + 1` steps answer what the step of that state answers. -/
theorem machine_run_succ (M : Host.Core) (n : Nat) {s u : M.State} (h : M.run n s = .next u) :
    M.run (n + 1) s = M.step u := by
  induction n generalizing s with
  | zero =>
    cases h
    rw [Host.Core.run]
    cases M.step u <;> rfl
  | succ n ih =>
    rw [Host.Core.run] at h ⊢
    cases hs : M.step s with
    | next t => rw [hs] at h; exact ih h
    | fault r => rw [hs] at h; cases h
    | refused r => rw [hs] at h; cases h

/-- The first tick of a run. -/
theorem run_next (n : Nat) {s t : State} (h : step s = .next t) :
    Sys2Proof.core.run (n + 1) s = Sys2Proof.core.run n t := machine_run_next Sys2Proof.core n h

/-- The last tick of a run. -/
theorem run_succ (n : Nat) {s u : State} (h : Sys2Proof.core.run n s = .next u) :
    Sys2Proof.core.run (n + 1) s = step u := machine_run_succ Sys2Proof.core n h

/-! What every operation keeps. -/

/-- What no instruction writes: the connection, the marks, the interrupt state and the parameters (R33, R35, R36,
R201). -/
structure KeepsHostSide (s t : State) : Prop where
  connected : t.connected = s.connected
  fault : t.fault = s.fault
  refused : t.refused = s.refused
  irqLine : t.irqLine = s.irqLine
  nmiLine : t.nmiLine = s.nmiLine
  nmiPending : t.nmiPending = s.nmiPending
  params : t.params = s.params

theorem operation_keepsHostSide {mn : Mnemonic} {op : Operation} (h : mn.operation = some op) (m : Operand)
    (s : State) : KeepsHostSide s (op m s).1 := by
  cases mn <;> cases h <;> (constructor <;>
    simp [opLda, opLdx, opLdy, opSta, opStx, opSty, opTax, opTay, opTxa, opTya, opTsx, opTxs, opPha, opPhp, opPla,
      opPlp, opAdc, opSbc, opCmp, opCpx, opCpy, opInc, opDec, opInx, opIny, opDex, opDey, opAnd, opEor, opOra, opBit,
      shiftWith, opAsl, opLsr, opRol, opRor, opJsr, opRts, opBcc, opBcs, opBeq, opBmi, opBne, opBpl, opBvc, opBvs,
      opJmp, opClc, opCld, opCli, opClv, opSec, opSed, opSei, opBrk, opRti, opNop, branch, apply_ite Prod.fst,
      apply_ite State.connected, apply_ite State.fault, apply_ite State.refused, apply_ite State.irqLine,
      apply_ite State.nmiLine, apply_ite State.nmiPending, apply_ite State.params])

theorem runOperation_keepsHostSide {i : Instr} {op : Operation} (h : i.mnemonic.operation = some op) (s : State) :
    KeepsHostSide s (runOperation i.operand op (i.entry s)) := by
  have k := operation_keepsHostSide h i.operand (i.operand.resolve (i.entry s))
  constructor
  · rw [runOperation_connected, k.connected]; simp
  · rw [runOperation_fault, k.fault]; simp
  · rw [runOperation_refused, k.refused]; simp
  · rw [runOperation_irqLine, k.irqLine]; simp
  · rw [runOperation_nmiLine, k.nmiLine]; simp
  · rw [runOperation_nmiPending, k.nmiPending]; simp
  · rw [runOperation_params, k.params]; simp

/-! Every memory operation keeps the canonical form. -/

theorem State.wf_push (s : State) (v : Byte) (h : Memory.wf s.mem = true) : Memory.wf (s.push v).mem = true :=
  State.wf_write s _ v h

theorem State.wf_push16 (s : State) (v : Addr) (h : Memory.wf s.mem = true) : Memory.wf (s.push16 v).mem = true :=
  State.wf_push _ _ (State.wf_push _ _ h)

theorem State.wf_enterException (s : State) (p : Byte) (v : Addr) (h : Memory.wf s.mem = true) :
    Memory.wf (s.enterException p v).mem = true := State.wf_push _ _ (State.wf_push16 _ _ h)

theorem Operand.wf_writeBack (s : State) (m : Operand) (v : Byte) (h : Memory.wf s.mem = true) :
    Memory.wf (m.writeBack s v).mem = true := by
  cases m <;> first | exact h | exact State.wf_write _ _ _ h

theorem State.wf_writeBytes (bs : List Byte) : ∀ (s : State) (a : Addr), Memory.wf s.mem = true →
    Memory.wf (s.writeBytes a bs).mem = true := by
  induction bs with
  | nil => exact fun _ _ h => h
  | cons b bs ih => exact fun s a h => ih _ _ (State.wf_write s a b h)

theorem State.wf_reset : Memory.wf State.reset.mem = true := rfl

theorem operation_wf {mn : Mnemonic} {op : Operation} (ho : mn.operation = some op) (m : Operand) (s : State)
    (h : Memory.wf s.mem = true) : Memory.wf (op m s).1.mem = true := by
  have hw (mem : Memory) (addr : Addr) (v : Byte) (hm : Memory.wf mem = true) :
      Memory.wf (Memory.write mem addr.toNat v) = true := Memory.wf_write (addr_lt_memSize addr) hm
  cases mn <;> cases ho <;>
    simp [opLda, opLdx, opLdy, opSta, opStx, opSty, opTax, opTay, opTxa, opTya, opTsx, opTxs, opPha, opPhp, opPla,
      opPlp, opAdc, opSbc, opCmp, opCpx, opCpy, opInc, opDec, opInx, opIny, opDex, opDey, opAnd, opEor, opOra, opBit,
      shiftWith, opAsl, opLsr, opRol, opRor, opJsr, opRts, opBcc, opBcs, opBeq, opBmi, opBne, opBpl, opBvc, opBvs,
      opJmp, opClc, opCld, opCli, opClv, opSec, opSed, opSei, opBrk, opRti, opNop, branch, apply_ite Prod.fst,
      apply_ite State.mem, h, hw]
  any_goals (split <;> simp [h, hw])
  exact hw _ _ _ (hw _ _ _ (hw _ _ _ h))

end Sys2Proof.Machine
end

