-- ==== Sys2Proof/Tests/Slice0.lean ====
section
/-! SUPPORT. The model's own tests: WellFormed's smoke test, decoding of words written out from the spec's encodings,
one tick for vectors of spec/95_test_vectors.md, and a witness for the hypotheses of every statement that has some. -/

namespace Sys2Proof.Tests

open Sys2Proof Sys2Proof.Machine

/-! WellFormed (R99). -/

/-- The one check refuses an undocumented instruction that names an opcode of the map: 0xA9 is LDA's (R72). -/
theorem test_wellFormed_refuses_documented_opcode : (Instr.undocumented 0xA9#8).wellFormed = false := by decide

/-- It admits the first and the last opcode of R99. -/
theorem test_wellFormed_admits_undocumented :
    (Instr.undocumented 0x02#8).wellFormed = true ∧ (Instr.undocumented 0xFF#8).wellFormed = true := by decide

/-! Decoding: the bytes are those of the rules' own encodings, the operand bytes 34 12. -/

/-- R111. -/
theorem test_decode_lda :
    decode [0xA9#8, 0x34#8] = .ok (.ldaImm 0x34#8, []) ∧
    decode [0xA5#8, 0x34#8] = .ok (.ldaZp0 0x34#8, []) ∧
    decode [0xB5#8, 0x34#8] = .ok (.ldaZpx 0x34#8, []) ∧
    decode [0xAD#8, 0x34#8, 0x12#8] = .ok (.ldaAbs 0x1234#16, []) ∧
    decode [0xBD#8, 0x34#8, 0x12#8] = .ok (.ldaAbx 0x1234#16, []) ∧
    decode [0xB9#8, 0x34#8, 0x12#8] = .ok (.ldaAby 0x1234#16, []) ∧
    decode [0xA1#8, 0x34#8] = .ok (.ldaIzx 0x34#8, []) ∧
    decode [0xB1#8, 0x34#8] = .ok (.ldaIzy 0x34#8, []) := by decide

/-- R112. -/
theorem test_decode_ldx :
    decode [0xA2#8, 0x34#8] = .ok (.ldxImm 0x34#8, []) ∧
    decode [0xA6#8, 0x34#8] = .ok (.ldxZp0 0x34#8, []) ∧
    decode [0xB6#8, 0x34#8] = .ok (.ldxZpy 0x34#8, []) ∧
    decode [0xAE#8, 0x34#8, 0x12#8] = .ok (.ldxAbs 0x1234#16, []) ∧
    decode [0xBE#8, 0x34#8, 0x12#8] = .ok (.ldxAby 0x1234#16, []) := by decide

/-- R113. -/
theorem test_decode_ldy :
    decode [0xA0#8, 0x34#8] = .ok (.ldyImm 0x34#8, []) ∧
    decode [0xA4#8, 0x34#8] = .ok (.ldyZp0 0x34#8, []) ∧
    decode [0xB4#8, 0x34#8] = .ok (.ldyZpx 0x34#8, []) ∧
    decode [0xAC#8, 0x34#8, 0x12#8] = .ok (.ldyAbs 0x1234#16, []) ∧
    decode [0xBC#8, 0x34#8, 0x12#8] = .ok (.ldyAbx 0x1234#16, []) := by decide

/-- R114. -/
theorem test_decode_sta :
    decode [0x85#8, 0x34#8] = .ok (.staZp0 0x34#8, []) ∧
    decode [0x95#8, 0x34#8] = .ok (.staZpx 0x34#8, []) ∧
    decode [0x8D#8, 0x34#8, 0x12#8] = .ok (.staAbs 0x1234#16, []) ∧
    decode [0x9D#8, 0x34#8, 0x12#8] = .ok (.staAbx 0x1234#16, []) ∧
    decode [0x99#8, 0x34#8, 0x12#8] = .ok (.staAby 0x1234#16, []) ∧
    decode [0x81#8, 0x34#8] = .ok (.staIzx 0x34#8, []) ∧
    decode [0x91#8, 0x34#8] = .ok (.staIzy 0x34#8, []) := by decide

/-- R115. -/
theorem test_decode_stx :
    decode [0x86#8, 0x34#8] = .ok (.stxZp0 0x34#8, []) ∧
    decode [0x96#8, 0x34#8] = .ok (.stxZpy 0x34#8, []) ∧
    decode [0x8E#8, 0x34#8, 0x12#8] = .ok (.stxAbs 0x1234#16, []) := by decide

/-- R116. -/
theorem test_decode_sty :
    decode [0x84#8, 0x34#8] = .ok (.styZp0 0x34#8, []) ∧
    decode [0x94#8, 0x34#8] = .ok (.styZpx 0x34#8, []) ∧
    decode [0x8C#8, 0x34#8, 0x12#8] = .ok (.styAbs 0x1234#16, []) := by decide

/-- R117. -/
theorem test_decode_tax :
    decode [0xAA#8] = .ok (.tax, []) := by decide

/-- R118. -/
theorem test_decode_tay :
    decode [0xA8#8] = .ok (.tay, []) := by decide

/-- R119. -/
theorem test_decode_txa :
    decode [0x8A#8] = .ok (.txa, []) := by decide

/-- R120. -/
theorem test_decode_tya :
    decode [0x98#8] = .ok (.tya, []) := by decide

/-- R121. -/
theorem test_decode_tsx :
    decode [0xBA#8] = .ok (.tsx, []) := by decide

/-- R122. -/
theorem test_decode_txs :
    decode [0x9A#8] = .ok (.txs, []) := by decide

/-- R126. -/
theorem test_decode_pha :
    decode [0x48#8] = .ok (.pha, []) := by decide

/-- R127. -/
theorem test_decode_php :
    decode [0x08#8] = .ok (.php, []) := by decide

/-- R128. -/
theorem test_decode_pla :
    decode [0x68#8] = .ok (.pla, []) := by decide

/-- R129. -/
theorem test_decode_plp :
    decode [0x28#8] = .ok (.plp, []) := by decide

/-- R132. -/
theorem test_decode_adc :
    decode [0x69#8, 0x34#8] = .ok (.adcImm 0x34#8, []) ∧
    decode [0x65#8, 0x34#8] = .ok (.adcZp0 0x34#8, []) ∧
    decode [0x75#8, 0x34#8] = .ok (.adcZpx 0x34#8, []) ∧
    decode [0x6D#8, 0x34#8, 0x12#8] = .ok (.adcAbs 0x1234#16, []) ∧
    decode [0x7D#8, 0x34#8, 0x12#8] = .ok (.adcAbx 0x1234#16, []) ∧
    decode [0x79#8, 0x34#8, 0x12#8] = .ok (.adcAby 0x1234#16, []) ∧
    decode [0x61#8, 0x34#8] = .ok (.adcIzx 0x34#8, []) ∧
    decode [0x71#8, 0x34#8] = .ok (.adcIzy 0x34#8, []) := by decide

/-- R133. -/
theorem test_decode_sbc :
    decode [0xE9#8, 0x34#8] = .ok (.sbcImm 0x34#8, []) ∧
    decode [0xE5#8, 0x34#8] = .ok (.sbcZp0 0x34#8, []) ∧
    decode [0xF5#8, 0x34#8] = .ok (.sbcZpx 0x34#8, []) ∧
    decode [0xED#8, 0x34#8, 0x12#8] = .ok (.sbcAbs 0x1234#16, []) ∧
    decode [0xFD#8, 0x34#8, 0x12#8] = .ok (.sbcAbx 0x1234#16, []) ∧
    decode [0xF9#8, 0x34#8, 0x12#8] = .ok (.sbcAby 0x1234#16, []) ∧
    decode [0xE1#8, 0x34#8] = .ok (.sbcIzx 0x34#8, []) ∧
    decode [0xF1#8, 0x34#8] = .ok (.sbcIzy 0x34#8, []) := by decide

/-- R135. -/
theorem test_decode_cmp :
    decode [0xC9#8, 0x34#8] = .ok (.cmpImm 0x34#8, []) ∧
    decode [0xC5#8, 0x34#8] = .ok (.cmpZp0 0x34#8, []) ∧
    decode [0xD5#8, 0x34#8] = .ok (.cmpZpx 0x34#8, []) ∧
    decode [0xCD#8, 0x34#8, 0x12#8] = .ok (.cmpAbs 0x1234#16, []) ∧
    decode [0xDD#8, 0x34#8, 0x12#8] = .ok (.cmpAbx 0x1234#16, []) ∧
    decode [0xD9#8, 0x34#8, 0x12#8] = .ok (.cmpAby 0x1234#16, []) ∧
    decode [0xC1#8, 0x34#8] = .ok (.cmpIzx 0x34#8, []) ∧
    decode [0xD1#8, 0x34#8] = .ok (.cmpIzy 0x34#8, []) := by decide

/-- R136. -/
theorem test_decode_cpx :
    decode [0xE0#8, 0x34#8] = .ok (.cpxImm 0x34#8, []) ∧
    decode [0xE4#8, 0x34#8] = .ok (.cpxZp0 0x34#8, []) ∧
    decode [0xEC#8, 0x34#8, 0x12#8] = .ok (.cpxAbs 0x1234#16, []) := by decide

/-- R137. -/
theorem test_decode_cpy :
    decode [0xC0#8, 0x34#8] = .ok (.cpyImm 0x34#8, []) ∧
    decode [0xC4#8, 0x34#8] = .ok (.cpyZp0 0x34#8, []) ∧
    decode [0xCC#8, 0x34#8, 0x12#8] = .ok (.cpyAbs 0x1234#16, []) := by decide

/-- R138. -/
theorem test_decode_inc :
    decode [0xE6#8, 0x34#8] = .ok (.incZp0 0x34#8, []) ∧
    decode [0xF6#8, 0x34#8] = .ok (.incZpx 0x34#8, []) ∧
    decode [0xEE#8, 0x34#8, 0x12#8] = .ok (.incAbs 0x1234#16, []) ∧
    decode [0xFE#8, 0x34#8, 0x12#8] = .ok (.incAbx 0x1234#16, []) := by decide

/-- R139. -/
theorem test_decode_dec :
    decode [0xC6#8, 0x34#8] = .ok (.decZp0 0x34#8, []) ∧
    decode [0xD6#8, 0x34#8] = .ok (.decZpx 0x34#8, []) ∧
    decode [0xCE#8, 0x34#8, 0x12#8] = .ok (.decAbs 0x1234#16, []) ∧
    decode [0xDE#8, 0x34#8, 0x12#8] = .ok (.decAbx 0x1234#16, []) := by decide

/-- R140. -/
theorem test_decode_inx :
    decode [0xE8#8] = .ok (.inx, []) := by decide

/-- R141. -/
theorem test_decode_iny :
    decode [0xC8#8] = .ok (.iny, []) := by decide

/-- R142. -/
theorem test_decode_dex :
    decode [0xCA#8] = .ok (.dex, []) := by decide

/-- R143. -/
theorem test_decode_dey :
    decode [0x88#8] = .ok (.dey, []) := by decide

/-- R146. -/
theorem test_decode_and :
    decode [0x29#8, 0x34#8] = .ok (.andImm 0x34#8, []) ∧
    decode [0x25#8, 0x34#8] = .ok (.andZp0 0x34#8, []) ∧
    decode [0x35#8, 0x34#8] = .ok (.andZpx 0x34#8, []) ∧
    decode [0x2D#8, 0x34#8, 0x12#8] = .ok (.andAbs 0x1234#16, []) ∧
    decode [0x3D#8, 0x34#8, 0x12#8] = .ok (.andAbx 0x1234#16, []) ∧
    decode [0x39#8, 0x34#8, 0x12#8] = .ok (.andAby 0x1234#16, []) ∧
    decode [0x21#8, 0x34#8] = .ok (.andIzx 0x34#8, []) ∧
    decode [0x31#8, 0x34#8] = .ok (.andIzy 0x34#8, []) := by decide

/-- R147. -/
theorem test_decode_eor :
    decode [0x49#8, 0x34#8] = .ok (.eorImm 0x34#8, []) ∧
    decode [0x45#8, 0x34#8] = .ok (.eorZp0 0x34#8, []) ∧
    decode [0x55#8, 0x34#8] = .ok (.eorZpx 0x34#8, []) ∧
    decode [0x4D#8, 0x34#8, 0x12#8] = .ok (.eorAbs 0x1234#16, []) ∧
    decode [0x5D#8, 0x34#8, 0x12#8] = .ok (.eorAbx 0x1234#16, []) ∧
    decode [0x59#8, 0x34#8, 0x12#8] = .ok (.eorAby 0x1234#16, []) ∧
    decode [0x41#8, 0x34#8] = .ok (.eorIzx 0x34#8, []) ∧
    decode [0x51#8, 0x34#8] = .ok (.eorIzy 0x34#8, []) := by decide

/-- R148. -/
theorem test_decode_ora :
    decode [0x09#8, 0x34#8] = .ok (.oraImm 0x34#8, []) ∧
    decode [0x05#8, 0x34#8] = .ok (.oraZp0 0x34#8, []) ∧
    decode [0x15#8, 0x34#8] = .ok (.oraZpx 0x34#8, []) ∧
    decode [0x0D#8, 0x34#8, 0x12#8] = .ok (.oraAbs 0x1234#16, []) ∧
    decode [0x1D#8, 0x34#8, 0x12#8] = .ok (.oraAbx 0x1234#16, []) ∧
    decode [0x19#8, 0x34#8, 0x12#8] = .ok (.oraAby 0x1234#16, []) ∧
    decode [0x01#8, 0x34#8] = .ok (.oraIzx 0x34#8, []) ∧
    decode [0x11#8, 0x34#8] = .ok (.oraIzy 0x34#8, []) := by decide

/-- R149. -/
theorem test_decode_bit :
    decode [0x24#8, 0x34#8] = .ok (.bitZp0 0x34#8, []) ∧
    decode [0x2C#8, 0x34#8, 0x12#8] = .ok (.bitAbs 0x1234#16, []) := by decide

/-- R150. -/
theorem test_decode_asl :
    decode [0x0A#8] = .ok (.aslAcc, []) ∧
    decode [0x06#8, 0x34#8] = .ok (.aslZp0 0x34#8, []) ∧
    decode [0x16#8, 0x34#8] = .ok (.aslZpx 0x34#8, []) ∧
    decode [0x0E#8, 0x34#8, 0x12#8] = .ok (.aslAbs 0x1234#16, []) ∧
    decode [0x1E#8, 0x34#8, 0x12#8] = .ok (.aslAbx 0x1234#16, []) := by decide

/-- R151. -/
theorem test_decode_lsr :
    decode [0x4A#8] = .ok (.lsrAcc, []) ∧
    decode [0x46#8, 0x34#8] = .ok (.lsrZp0 0x34#8, []) ∧
    decode [0x56#8, 0x34#8] = .ok (.lsrZpx 0x34#8, []) ∧
    decode [0x4E#8, 0x34#8, 0x12#8] = .ok (.lsrAbs 0x1234#16, []) ∧
    decode [0x5E#8, 0x34#8, 0x12#8] = .ok (.lsrAbx 0x1234#16, []) := by decide

/-- R152. -/
theorem test_decode_rol :
    decode [0x2A#8] = .ok (.rolAcc, []) ∧
    decode [0x26#8, 0x34#8] = .ok (.rolZp0 0x34#8, []) ∧
    decode [0x36#8, 0x34#8] = .ok (.rolZpx 0x34#8, []) ∧
    decode [0x2E#8, 0x34#8, 0x12#8] = .ok (.rolAbs 0x1234#16, []) ∧
    decode [0x3E#8, 0x34#8, 0x12#8] = .ok (.rolAbx 0x1234#16, []) := by decide

/-- R153. -/
theorem test_decode_ror :
    decode [0x6A#8] = .ok (.rorAcc, []) ∧
    decode [0x66#8, 0x34#8] = .ok (.rorZp0 0x34#8, []) ∧
    decode [0x76#8, 0x34#8] = .ok (.rorZpx 0x34#8, []) ∧
    decode [0x6E#8, 0x34#8, 0x12#8] = .ok (.rorAbs 0x1234#16, []) ∧
    decode [0x7E#8, 0x34#8, 0x12#8] = .ok (.rorAbx 0x1234#16, []) := by decide

/-- R161. -/
theorem test_decode_jsr :
    decode [0x20#8, 0x34#8, 0x12#8] = .ok (.jsr 0x1234#16, []) := by decide

/-- R162. -/
theorem test_decode_rts :
    decode [0x60#8] = .ok (.rts, []) := by decide

/-- R164. -/
theorem test_decode_bcc :
    decode [0x90#8, 0x34#8] = .ok (.bcc 0x34#8, []) := by decide

/-- R165. -/
theorem test_decode_bcs :
    decode [0xB0#8, 0x34#8] = .ok (.bcs 0x34#8, []) := by decide

/-- R166. -/
theorem test_decode_beq :
    decode [0xF0#8, 0x34#8] = .ok (.beq 0x34#8, []) := by decide

/-- R167. -/
theorem test_decode_bmi :
    decode [0x30#8, 0x34#8] = .ok (.bmi 0x34#8, []) := by decide

/-- R168. -/
theorem test_decode_bne :
    decode [0xD0#8, 0x34#8] = .ok (.bne 0x34#8, []) := by decide

/-- R169. -/
theorem test_decode_bpl :
    decode [0x10#8, 0x34#8] = .ok (.bpl 0x34#8, []) := by decide

/-- R170. -/
theorem test_decode_bvc :
    decode [0x50#8, 0x34#8] = .ok (.bvc 0x34#8, []) := by decide

/-- R171. -/
theorem test_decode_bvs :
    decode [0x70#8, 0x34#8] = .ok (.bvs 0x34#8, []) := by decide

/-- R172. -/
theorem test_decode_jmp :
    decode [0x4C#8, 0x34#8, 0x12#8] = .ok (.jmpAbs 0x1234#16, []) ∧
    decode [0x6C#8, 0x34#8, 0x12#8] = .ok (.jmpInd 0x1234#16, []) := by decide

/-- R176. -/
theorem test_decode_clc :
    decode [0x18#8] = .ok (.clc, []) := by decide

/-- R177. -/
theorem test_decode_cld :
    decode [0xD8#8] = .ok (.cld, []) := by decide

/-- R178. -/
theorem test_decode_cli :
    decode [0x58#8] = .ok (.cli, []) := by decide

/-- R179. -/
theorem test_decode_clv :
    decode [0xB8#8] = .ok (.clv, []) := by decide

/-- R180. -/
theorem test_decode_sec :
    decode [0x38#8] = .ok (.sec, []) := by decide

/-- R181. -/
theorem test_decode_sed :
    decode [0xF8#8] = .ok (.sed, []) := by decide

/-- R182. -/
theorem test_decode_sei :
    decode [0x78#8] = .ok (.sei, []) := by decide

/-- R183. -/
theorem test_decode_brk :
    decode [0x00#8] = .ok (.brk, []) := by decide

/-- R184. -/
theorem test_decode_rti :
    decode [0x40#8] = .ok (.rti, []) := by decide

/-- R185. -/
theorem test_decode_nop :
    decode [0xEA#8] = .ok (.nop, []) := by decide

/-- R99, R186: an undocumented opcode is one byte long. -/
theorem test_decode_undocumented :
    decode [0x02#8, 0xEA#8] = .ok (.undocumented 0x02#8, [0xEA#8]) ∧
    decode [0xFF#8] = .ok (.undocumented 0xFF#8, []) := by decide

/-- A sequence that ends inside an instruction, and no bytes at all. -/
theorem test_decode_rejects_short :
    decode [0x8D#8, 0x00#8] = .error (.truncated 0x8D#8) ∧ decode [] = .error .noBytes := by decide

/-- The table's numbering: the second byte is bits 15..8. -/
theorem test_decode_table_word :
    decodeTableWord 24 0x12348D = some (.staAbs 0x1234#16) ∧ decodeTableWord 8 0xA9 = some (.ldaImm 0x00#8) := by decide

/-! One tick. The expected results are the vectors of spec/95_test_vectors.md, part 2. -/

/-- The registers of a test state: A, X, Y, SP, P. -/
structure Regs where
  a : Byte
  x : Byte
  y : Byte
  sp : Byte
  p : Byte
deriving DecidableEq, Repr

/-- Store bytes at single addresses. -/
def poke (s : State) : List (Addr × Byte) → State
  | [] => s
  | (a, v) :: rest => poke (s.write a v) rest

/-- The "before" state of a vector: power-on with the registers, the data and the bytes at PC given. -/
def before (pc : Addr) (bytes : List Byte) (r : Regs) (data : List (Addr × Byte)) : State :=
  (poke { State.reset with a := r.a, x := r.x, y := r.y, sp := r.sp, p := r.p, pc := pc } data).writeBytes pc bytes

/-- One tick leaves the registers, the PC and the counter of a vector, and memory as it was but for the bytes
listed. -/
def runsTo (s : State) (r : Regs) (pc : Addr) (written : List (Addr × Byte)) (ticks : Byte) : Bool :=
  match step s with
  | .next t =>
    decide ((⟨t.a, t.x, t.y, t.sp, t.p⟩ : Regs) = r) && t.pc == pc && t.cycles + 1 == ticks &&
      decide (t.mem = (poke s written).mem) && t.fault.isNone && t.refused.isNone
  | _ => false

theorem test_lda_imm_zero :
    runsTo (before 0x0600#16 [0xA9#8, 0x00#8] ⟨0x55#8, 0x00#8, 0x00#8, 0xFF#8, 0x20#8⟩
      [])
      ⟨0x00#8, 0x00#8, 0x00#8, 0xFF#8, 0x22#8⟩ 0x0602#16 [] 2 = true := by decide

theorem test_lda_imm_negative :
    runsTo (before 0x0600#16 [0xA9#8, 0x80#8] ⟨0x00#8, 0x00#8, 0x00#8, 0xFF#8, 0x20#8⟩
      [])
      ⟨0x80#8, 0x00#8, 0x00#8, 0xFF#8, 0xA0#8⟩ 0x0602#16 [] 2 = true := by decide

theorem test_lda_zp :
    runsTo (before 0x0600#16 [0xA5#8, 0x10#8] ⟨0x00#8, 0x00#8, 0x00#8, 0xFF#8, 0x20#8⟩
      [(0x0010#16, 0x7F#8)])
      ⟨0x7F#8, 0x00#8, 0x00#8, 0xFF#8, 0x20#8⟩ 0x0602#16 [] 3 = true := by decide

theorem test_lda_zp_x_wraps_in_page_0 :
    runsTo (before 0x0600#16 [0xB5#8, 0xFF#8] ⟨0x00#8, 0x02#8, 0x00#8, 0xFF#8, 0x20#8⟩
      [(0x0001#16, 0x44#8)])
      ⟨0x44#8, 0x02#8, 0x00#8, 0xFF#8, 0x20#8⟩ 0x0602#16 [] 4 = true := by decide

theorem test_lda_abs :
    runsTo (before 0x0600#16 [0xAD#8, 0x34#8, 0x12#8] ⟨0x00#8, 0x00#8, 0x00#8, 0xFF#8, 0x20#8⟩
      [(0x1234#16, 0x01#8)])
      ⟨0x01#8, 0x00#8, 0x00#8, 0xFF#8, 0x20#8⟩ 0x0603#16 [] 4 = true := by decide

theorem test_lda_abs_x_page_cross_tgw_0x02ff_plus_1 :
    runsTo (before 0x0600#16 [0xBD#8, 0xFF#8, 0x02#8] ⟨0x00#8, 0x01#8, 0x00#8, 0xFF#8, 0x20#8⟩
      [(0x0300#16, 0x22#8)])
      ⟨0x22#8, 0x01#8, 0x00#8, 0xFF#8, 0x20#8⟩ 0x0603#16 [] 5 = true := by decide

theorem test_lda_abs_x_wraps_0xffff_plus_1 :
    runsTo (before 0x0600#16 [0xBD#8, 0xFF#8, 0xFF#8] ⟨0x00#8, 0x01#8, 0x00#8, 0xFF#8, 0x20#8⟩
      [(0x0000#16, 0x33#8)])
      ⟨0x33#8, 0x01#8, 0x00#8, 0xFF#8, 0x20#8⟩ 0x0603#16 [] 5 = true := by decide

theorem test_lda_abs_y_page_cross :
    runsTo (before 0x0600#16 [0xB9#8, 0xF0#8, 0x02#8] ⟨0x00#8, 0x00#8, 0x20#8, 0xFF#8, 0x20#8⟩
      [(0x0310#16, 0xFE#8)])
      ⟨0xFE#8, 0x00#8, 0x20#8, 0xFF#8, 0xA0#8⟩ 0x0603#16 [] 5 = true := by decide

theorem test_lda_zp_x :
    runsTo (before 0x0600#16 [0xA1#8, 0x20#8] ⟨0x00#8, 0x04#8, 0x00#8, 0xFF#8, 0x20#8⟩
      [(0x0024#16, 0x00#8), (0x0025#16, 0x03#8), (0x0300#16, 0x5A#8)])
      ⟨0x5A#8, 0x04#8, 0x00#8, 0xFF#8, 0x20#8⟩ 0x0602#16 [] 6 = true := by decide

theorem test_lda_zp_x_pointer_wraps_at_0xff :
    runsTo (before 0x0600#16 [0xA1#8, 0xFE#8] ⟨0x00#8, 0x01#8, 0x00#8, 0xFF#8, 0x20#8⟩
      [(0x0000#16, 0x04#8), (0x00FF#16, 0x10#8), (0x0410#16, 0xA5#8)])
      ⟨0xA5#8, 0x01#8, 0x00#8, 0xFF#8, 0xA0#8⟩ 0x0602#16 [] 6 = true := by decide

theorem test_lda_zp_y_page_cross :
    runsTo (before 0x0600#16 [0xB1#8, 0x40#8] ⟨0x00#8, 0x00#8, 0x05#8, 0xFF#8, 0x20#8⟩
      [(0x0040#16, 0xFE#8), (0x0041#16, 0x03#8), (0x0403#16, 0x0A#8)])
      ⟨0x0A#8, 0x00#8, 0x05#8, 0xFF#8, 0x20#8⟩ 0x0602#16 [] 6 = true := by decide

theorem test_lda_zp_y_pointer_at_0xff_wraps :
    runsTo (before 0x0600#16 [0xB1#8, 0xFF#8] ⟨0x00#8, 0x00#8, 0x00#8, 0xFF#8, 0x20#8⟩
      [(0x0000#16, 0x05#8), (0x00FF#16, 0x00#8), (0x0500#16, 0x77#8)])
      ⟨0x77#8, 0x00#8, 0x00#8, 0xFF#8, 0x20#8⟩ 0x0602#16 [] 5 = true := by decide

theorem test_ldx_zp_y_wraps :
    runsTo (before 0x0600#16 [0xB6#8, 0xFF#8] ⟨0x00#8, 0x00#8, 0x01#8, 0xFF#8, 0x20#8⟩
      [(0x0000#16, 0x80#8)])
      ⟨0x00#8, 0x80#8, 0x01#8, 0xFF#8, 0xA0#8⟩ 0x0602#16 [] 4 = true := by decide

theorem test_ldx_abs_y_page_cross :
    runsTo (before 0x0600#16 [0xBE#8, 0xFF#8, 0x00#8] ⟨0x00#8, 0x00#8, 0x01#8, 0xFF#8, 0x20#8⟩
      [(0x0100#16, 0x00#8)])
      ⟨0x00#8, 0x00#8, 0x01#8, 0xFF#8, 0x22#8⟩ 0x0603#16 [] 5 = true := by decide

theorem test_ldy_abs_x_page_cross :
    runsTo (before 0x0600#16 [0xBC#8, 0x80#8, 0x12#8] ⟨0x00#8, 0x80#8, 0x00#8, 0xFF#8, 0x20#8⟩
      [(0x1300#16, 0x01#8)])
      ⟨0x00#8, 0x80#8, 0x01#8, 0xFF#8, 0x20#8⟩ 0x0603#16 [] 5 = true := by decide

theorem test_sta_abs_x_page_cross_no_extra_cycle :
    runsTo (before 0x0600#16 [0x9D#8, 0xFF#8, 0x02#8] ⟨0x42#8, 0x01#8, 0x00#8, 0xFF#8, 0x20#8⟩
      [])
      ⟨0x42#8, 0x01#8, 0x00#8, 0xFF#8, 0x20#8⟩ 0x0603#16 [(0x0300#16, 0x42#8)] 5 = true := by decide

theorem test_sta_zp_y :
    runsTo (before 0x0600#16 [0x91#8, 0x40#8] ⟨0x99#8, 0x00#8, 0x01#8, 0xFF#8, 0x20#8⟩
      [(0x0040#16, 0xFF#8), (0x0041#16, 0x02#8)])
      ⟨0x99#8, 0x00#8, 0x01#8, 0xFF#8, 0x20#8⟩ 0x0602#16 [(0x0300#16, 0x99#8)] 6 = true := by decide

theorem test_stx_zp_y :
    runsTo (before 0x0600#16 [0x96#8, 0x10#8] ⟨0x00#8, 0x05#8, 0xF5#8, 0xFF#8, 0x20#8⟩
      [])
      ⟨0x00#8, 0x05#8, 0xF5#8, 0xFF#8, 0x20#8⟩ 0x0602#16 [(0x0005#16, 0x05#8)] 4 = true := by decide

theorem test_sty_abs :
    runsTo (before 0x0600#16 [0x8C#8, 0x00#8, 0x02#8] ⟨0x00#8, 0x00#8, 0x09#8, 0xFF#8, 0x20#8⟩
      [])
      ⟨0x00#8, 0x00#8, 0x09#8, 0xFF#8, 0x20#8⟩ 0x0603#16 [(0x0200#16, 0x09#8)] 4 = true := by decide

theorem test_sta_leaves_flags :
    runsTo (before 0x0600#16 [0x85#8, 0x10#8] ⟨0x00#8, 0x00#8, 0x00#8, 0xFF#8, 0xA1#8⟩
      [])
      ⟨0x00#8, 0x00#8, 0x00#8, 0xFF#8, 0xA1#8⟩ 0x0602#16 [] 3 = true := by decide

theorem test_tax_negative :
    runsTo (before 0x0600#16 [0xAA#8] ⟨0xFF#8, 0x00#8, 0x00#8, 0xFF#8, 0x20#8⟩
      [])
      ⟨0xFF#8, 0xFF#8, 0x00#8, 0xFF#8, 0xA0#8⟩ 0x0601#16 [] 2 = true := by decide

theorem test_tay_zero :
    runsTo (before 0x0600#16 [0xA8#8] ⟨0x00#8, 0x00#8, 0x12#8, 0xFF#8, 0x20#8⟩
      [])
      ⟨0x00#8, 0x00#8, 0x00#8, 0xFF#8, 0x22#8⟩ 0x0601#16 [] 2 = true := by decide

theorem test_txa :
    runsTo (before 0x0600#16 [0x8A#8] ⟨0x00#8, 0x80#8, 0x00#8, 0xFF#8, 0x20#8⟩
      [])
      ⟨0x80#8, 0x80#8, 0x00#8, 0xFF#8, 0xA0#8⟩ 0x0601#16 [] 2 = true := by decide

theorem test_tya :
    runsTo (before 0x0600#16 [0x98#8] ⟨0x00#8, 0x00#8, 0x01#8, 0xFF#8, 0xA2#8⟩
      [])
      ⟨0x01#8, 0x00#8, 0x01#8, 0xFF#8, 0x20#8⟩ 0x0601#16 [] 2 = true := by decide

theorem test_tsx :
    runsTo (before 0x0600#16 [0xBA#8] ⟨0x00#8, 0x00#8, 0x00#8, 0x00#8, 0x20#8⟩
      [])
      ⟨0x00#8, 0x00#8, 0x00#8, 0x00#8, 0x22#8⟩ 0x0601#16 [] 2 = true := by decide

theorem test_txs_no_flags :
    runsTo (before 0x0600#16 [0x9A#8] ⟨0x00#8, 0x00#8, 0x00#8, 0xFF#8, 0x20#8⟩
      [])
      ⟨0x00#8, 0x00#8, 0x00#8, 0x00#8, 0x20#8⟩ 0x0601#16 [] 2 = true := by decide

theorem test_pha :
    runsTo (before 0x0600#16 [0x48#8] ⟨0x33#8, 0x00#8, 0x00#8, 0xFF#8, 0x20#8⟩
      [])
      ⟨0x33#8, 0x00#8, 0x00#8, 0xFE#8, 0x20#8⟩ 0x0601#16 [(0x01FF#16, 0x33#8)] 3 = true := by decide

theorem test_pha_at_sp_is_0_wraps :
    runsTo (before 0x0600#16 [0x48#8] ⟨0x33#8, 0x00#8, 0x00#8, 0x00#8, 0x20#8⟩
      [])
      ⟨0x33#8, 0x00#8, 0x00#8, 0xFF#8, 0x20#8⟩ 0x0601#16 [(0x0100#16, 0x33#8)] 3 = true := by decide

theorem test_php_forces_b_u_in_copy :
    runsTo (before 0x0600#16 [0x08#8] ⟨0x00#8, 0x00#8, 0x00#8, 0xFF#8, 0xC3#8⟩
      [])
      ⟨0x00#8, 0x00#8, 0x00#8, 0xFE#8, 0xC3#8⟩ 0x0601#16 [(0x01FF#16, 0xF3#8)] 3 = true := by decide

theorem test_php_with_p_u_is_0_host_minus_cleared :
    runsTo (before 0x0600#16 [0x08#8] ⟨0x00#8, 0x00#8, 0x00#8, 0xFF#8, 0x00#8⟩
      [])
      ⟨0x00#8, 0x00#8, 0x00#8, 0xFE#8, 0x00#8⟩ 0x0601#16 [(0x01FF#16, 0x30#8)] 3 = true := by decide

theorem test_pla_zero :
    runsTo (before 0x0600#16 [0x68#8] ⟨0x11#8, 0x00#8, 0x00#8, 0xFE#8, 0x20#8⟩
      [(0x01FF#16, 0x00#8)])
      ⟨0x00#8, 0x00#8, 0x00#8, 0xFF#8, 0x22#8⟩ 0x0601#16 [] 4 = true := by decide

theorem test_pla_at_sp_is_ff_wraps_to_0x0100 :
    runsTo (before 0x0600#16 [0x68#8] ⟨0x00#8, 0x00#8, 0x00#8, 0xFF#8, 0x20#8⟩
      [(0x0100#16, 0x05#8)])
      ⟨0x05#8, 0x00#8, 0x00#8, 0x00#8, 0x20#8⟩ 0x0601#16 [] 4 = true := by decide

theorem test_plp_forces_b_is_0_u_is_1 :
    runsTo (before 0x0600#16 [0x28#8] ⟨0x00#8, 0x00#8, 0x00#8, 0xFE#8, 0x20#8⟩
      [(0x01FF#16, 0xFF#8)])
      ⟨0x00#8, 0x00#8, 0x00#8, 0xFF#8, 0xEF#8⟩ 0x0601#16 [] 4 = true := by decide

theorem test_plp_from_0x00 :
    runsTo (before 0x0600#16 [0x28#8] ⟨0x00#8, 0x00#8, 0x00#8, 0xFE#8, 0xFF#8⟩
      [(0x01FF#16, 0x00#8)])
      ⟨0x00#8, 0x00#8, 0x00#8, 0xFF#8, 0x20#8⟩ 0x0601#16 [] 4 = true := by decide

theorem test_adc_0x80_plus_0x80_c_is_1_v_is_1_z_is_1 :
    runsTo (before 0x0600#16 [0x69#8, 0x80#8] ⟨0x80#8, 0x00#8, 0x00#8, 0xFF#8, 0x20#8⟩
      [])
      ⟨0x00#8, 0x00#8, 0x00#8, 0xFF#8, 0x63#8⟩ 0x0602#16 [] 2 = true := by decide

theorem test_adc_with_d_is_1_is_binary :
    runsTo (before 0x0600#16 [0x69#8, 0x01#8] ⟨0x09#8, 0x00#8, 0x00#8, 0xFF#8, 0x28#8⟩
      [])
      ⟨0x0A#8, 0x00#8, 0x00#8, 0xFF#8, 0x28#8⟩ 0x0602#16 [] 2 = true := by decide

theorem test_adc_abs_x_page_cross :
    runsTo (before 0x0600#16 [0x7D#8, 0xFF#8, 0x02#8] ⟨0x01#8, 0x01#8, 0x00#8, 0xFF#8, 0x20#8⟩
      [(0x0300#16, 0x01#8)])
      ⟨0x02#8, 0x01#8, 0x00#8, 0xFF#8, 0x20#8⟩ 0x0603#16 [] 5 = true := by decide

theorem test_sbc_0x50_minus_0xb0_v_is_1 :
    runsTo (before 0x0600#16 [0xE9#8, 0xB0#8] ⟨0x50#8, 0x00#8, 0x00#8, 0xFF#8, 0x21#8⟩
      [])
      ⟨0xA0#8, 0x00#8, 0x00#8, 0xFF#8, 0xE0#8⟩ 0x0602#16 [] 2 = true := by decide

theorem test_sbc_with_c_is_0_subtracts_1_more :
    runsTo (before 0x0600#16 [0xE9#8, 0x05#8] ⟨0x05#8, 0x00#8, 0x00#8, 0xFF#8, 0x20#8⟩
      [])
      ⟨0xFF#8, 0x00#8, 0x00#8, 0xFF#8, 0xA0#8⟩ 0x0602#16 [] 2 = true := by decide

theorem test_cmp_a_below_m :
    runsTo (before 0x0600#16 [0xC9#8, 0x20#8] ⟨0x10#8, 0x00#8, 0x00#8, 0xFF#8, 0x20#8⟩
      [])
      ⟨0x10#8, 0x00#8, 0x00#8, 0xFF#8, 0xA0#8⟩ 0x0602#16 [] 2 = true := by decide

theorem test_cmp_a_above_m :
    runsTo (before 0x0600#16 [0xC9#8, 0x00#8] ⟨0x80#8, 0x00#8, 0x00#8, 0xFF#8, 0x20#8⟩
      [])
      ⟨0x80#8, 0x00#8, 0x00#8, 0xFF#8, 0xA1#8⟩ 0x0602#16 [] 2 = true := by decide

theorem test_cmp_abs_y_page_cross :
    runsTo (before 0x0600#16 [0xD9#8, 0xFF#8, 0x02#8] ⟨0x05#8, 0x00#8, 0x01#8, 0xFF#8, 0x20#8⟩
      [(0x0300#16, 0x05#8)])
      ⟨0x05#8, 0x00#8, 0x01#8, 0xFF#8, 0x23#8⟩ 0x0603#16 [] 5 = true := by decide

theorem test_cpx :
    runsTo (before 0x0600#16 [0xE0#8, 0xFF#8] ⟨0x00#8, 0x00#8, 0x00#8, 0xFF#8, 0x20#8⟩
      [])
      ⟨0x00#8, 0x00#8, 0x00#8, 0xFF#8, 0x20#8⟩ 0x0602#16 [] 2 = true := by decide

theorem test_cpy_equal_zero :
    runsTo (before 0x0600#16 [0xC0#8, 0x00#8] ⟨0x00#8, 0x00#8, 0x00#8, 0xFF#8, 0x20#8⟩
      [])
      ⟨0x00#8, 0x00#8, 0x00#8, 0xFF#8, 0x23#8⟩ 0x0602#16 [] 2 = true := by decide

theorem test_inc_wraps :
    runsTo (before 0x0600#16 [0xE6#8, 0x10#8] ⟨0x00#8, 0x00#8, 0x00#8, 0xFF#8, 0x20#8⟩
      [(0x0010#16, 0xFF#8)])
      ⟨0x00#8, 0x00#8, 0x00#8, 0xFF#8, 0x22#8⟩ 0x0602#16 [(0x0010#16, 0x00#8)] 5 = true := by decide

theorem test_inc_to_negative :
    runsTo (before 0x0600#16 [0xEE#8, 0x00#8, 0x02#8] ⟨0x00#8, 0x00#8, 0x00#8, 0xFF#8, 0x20#8⟩
      [(0x0200#16, 0x7F#8)])
      ⟨0x00#8, 0x00#8, 0x00#8, 0xFF#8, 0xA0#8⟩ 0x0603#16 [(0x0200#16, 0x80#8)] 6 = true := by decide

theorem test_inc_abs_x_cross_base_count_only :
    runsTo (before 0x0600#16 [0xFE#8, 0xFF#8, 0x02#8] ⟨0x00#8, 0x01#8, 0x00#8, 0xFF#8, 0x20#8⟩
      [(0x0300#16, 0x00#8)])
      ⟨0x00#8, 0x01#8, 0x00#8, 0xFF#8, 0x20#8⟩ 0x0603#16 [(0x0300#16, 0x01#8)] 7 = true := by decide

theorem test_dec_to_zero :
    runsTo (before 0x0600#16 [0xCE#8, 0x00#8, 0x02#8] ⟨0x00#8, 0x00#8, 0x00#8, 0xFF#8, 0x20#8⟩
      [(0x0200#16, 0x01#8)])
      ⟨0x00#8, 0x00#8, 0x00#8, 0xFF#8, 0x22#8⟩ 0x0603#16 [(0x0200#16, 0x00#8)] 6 = true := by decide

theorem test_dec_wraps :
    runsTo (before 0x0600#16 [0xC6#8, 0x10#8] ⟨0x00#8, 0x00#8, 0x00#8, 0xFF#8, 0x20#8⟩
      [(0x0010#16, 0x00#8)])
      ⟨0x00#8, 0x00#8, 0x00#8, 0xFF#8, 0xA0#8⟩ 0x0602#16 [(0x0010#16, 0xFF#8)] 5 = true := by decide

theorem test_dec_zp_x_wraps_in_page_0 :
    runsTo (before 0x0600#16 [0xD6#8, 0xFF#8] ⟨0x00#8, 0x01#8, 0x00#8, 0xFF#8, 0x20#8⟩
      [(0x0000#16, 0x05#8)])
      ⟨0x00#8, 0x01#8, 0x00#8, 0xFF#8, 0x20#8⟩ 0x0602#16 [(0x0000#16, 0x04#8)] 6 = true := by decide

theorem test_inx_wraps_c_unchanged :
    runsTo (before 0x0600#16 [0xE8#8] ⟨0x00#8, 0xFF#8, 0x00#8, 0xFF#8, 0x21#8⟩
      [])
      ⟨0x00#8, 0x00#8, 0x00#8, 0xFF#8, 0x23#8⟩ 0x0601#16 [] 2 = true := by decide

theorem test_iny :
    runsTo (before 0x0600#16 [0xC8#8] ⟨0x00#8, 0x00#8, 0x7F#8, 0xFF#8, 0x20#8⟩
      [])
      ⟨0x00#8, 0x00#8, 0x80#8, 0xFF#8, 0xA0#8⟩ 0x0601#16 [] 2 = true := by decide

theorem test_dex_wraps :
    runsTo (before 0x0600#16 [0xCA#8] ⟨0x00#8, 0x00#8, 0x00#8, 0xFF#8, 0x20#8⟩
      [])
      ⟨0x00#8, 0xFF#8, 0x00#8, 0xFF#8, 0xA0#8⟩ 0x0601#16 [] 2 = true := by decide

theorem test_dey :
    runsTo (before 0x0600#16 [0x88#8] ⟨0x00#8, 0x00#8, 0x01#8, 0xFF#8, 0x20#8⟩
      [])
      ⟨0x00#8, 0x00#8, 0x00#8, 0xFF#8, 0x22#8⟩ 0x0601#16 [] 2 = true := by decide

theorem test_and :
    runsTo (before 0x0600#16 [0x29#8, 0x0F#8] ⟨0xF0#8, 0x00#8, 0x00#8, 0xFF#8, 0x20#8⟩
      [])
      ⟨0x00#8, 0x00#8, 0x00#8, 0xFF#8, 0x22#8⟩ 0x0602#16 [] 2 = true := by decide

theorem test_and_negative :
    runsTo (before 0x0600#16 [0x29#8, 0x80#8] ⟨0xFF#8, 0x00#8, 0x00#8, 0xFF#8, 0x20#8⟩
      [])
      ⟨0x80#8, 0x00#8, 0x00#8, 0xFF#8, 0xA0#8⟩ 0x0602#16 [] 2 = true := by decide

theorem test_eor :
    runsTo (before 0x0600#16 [0x49#8, 0xFF#8] ⟨0x0F#8, 0x00#8, 0x00#8, 0xFF#8, 0x20#8⟩
      [])
      ⟨0xF0#8, 0x00#8, 0x00#8, 0xFF#8, 0xA0#8⟩ 0x0602#16 [] 2 = true := by decide

theorem test_eor_self_gives_zero :
    runsTo (before 0x0600#16 [0x49#8, 0x5A#8] ⟨0x5A#8, 0x00#8, 0x00#8, 0xFF#8, 0x20#8⟩
      [])
      ⟨0x00#8, 0x00#8, 0x00#8, 0xFF#8, 0x22#8⟩ 0x0602#16 [] 2 = true := by decide

theorem test_ora :
    runsTo (before 0x0600#16 [0x09#8, 0x80#8] ⟨0x01#8, 0x00#8, 0x00#8, 0xFF#8, 0x20#8⟩
      [])
      ⟨0x81#8, 0x00#8, 0x00#8, 0xFF#8, 0xA0#8⟩ 0x0602#16 [] 2 = true := by decide

theorem test_ora_zero :
    runsTo (before 0x0600#16 [0x09#8, 0x00#8] ⟨0x00#8, 0x00#8, 0x00#8, 0xFF#8, 0x20#8⟩
      [])
      ⟨0x00#8, 0x00#8, 0x00#8, 0xFF#8, 0x22#8⟩ 0x0602#16 [] 2 = true := by decide

theorem test_bit_sets_n_v_from_m_z_from_a_m :
    runsTo (before 0x0600#16 [0x24#8, 0x10#8] ⟨0x01#8, 0x00#8, 0x00#8, 0xFF#8, 0x20#8⟩
      [(0x0010#16, 0xC0#8)])
      ⟨0x01#8, 0x00#8, 0x00#8, 0xFF#8, 0xE2#8⟩ 0x0602#16 [] 3 = true := by decide

theorem test_bit_clears_n_v :
    runsTo (before 0x0600#16 [0x2C#8, 0x00#8, 0x02#8] ⟨0xFF#8, 0x00#8, 0x00#8, 0xFF#8, 0xE0#8⟩
      [(0x0200#16, 0x01#8)])
      ⟨0xFF#8, 0x00#8, 0x00#8, 0xFF#8, 0x20#8⟩ 0x0603#16 [] 4 = true := by decide

theorem test_asl_a_carry_out :
    runsTo (before 0x0600#16 [0x0A#8] ⟨0x81#8, 0x00#8, 0x00#8, 0xFF#8, 0x20#8⟩
      [])
      ⟨0x02#8, 0x00#8, 0x00#8, 0xFF#8, 0x21#8⟩ 0x0601#16 [] 2 = true := by decide

theorem test_asl_a_to_zero :
    runsTo (before 0x0600#16 [0x0A#8] ⟨0x80#8, 0x00#8, 0x00#8, 0xFF#8, 0x20#8⟩
      [])
      ⟨0x00#8, 0x00#8, 0x00#8, 0xFF#8, 0x23#8⟩ 0x0601#16 [] 2 = true := by decide

theorem test_asl_zp :
    runsTo (before 0x0600#16 [0x06#8, 0x10#8] ⟨0x00#8, 0x00#8, 0x00#8, 0xFF#8, 0x20#8⟩
      [(0x0010#16, 0x40#8)])
      ⟨0x00#8, 0x00#8, 0x00#8, 0xFF#8, 0xA0#8⟩ 0x0602#16 [(0x0010#16, 0x80#8)] 5 = true := by decide

theorem test_asl_abs_x_cross :
    runsTo (before 0x0600#16 [0x1E#8, 0xFF#8, 0x02#8] ⟨0x00#8, 0x01#8, 0x00#8, 0xFF#8, 0x20#8⟩
      [(0x0300#16, 0x01#8)])
      ⟨0x00#8, 0x01#8, 0x00#8, 0xFF#8, 0x20#8⟩ 0x0603#16 [(0x0300#16, 0x02#8)] 7 = true := by decide

theorem test_lsr_a :
    runsTo (before 0x0600#16 [0x4A#8] ⟨0x03#8, 0x00#8, 0x00#8, 0xFF#8, 0x20#8⟩
      [])
      ⟨0x01#8, 0x00#8, 0x00#8, 0xFF#8, 0x21#8⟩ 0x0601#16 [] 2 = true := by decide

theorem test_lsr_a_to_zero :
    runsTo (before 0x0600#16 [0x4A#8] ⟨0x01#8, 0x00#8, 0x00#8, 0xFF#8, 0x20#8⟩
      [])
      ⟨0x00#8, 0x00#8, 0x00#8, 0xFF#8, 0x23#8⟩ 0x0601#16 [] 2 = true := by decide

theorem test_lsr_clears_n :
    runsTo (before 0x0600#16 [0x46#8, 0x10#8] ⟨0x00#8, 0x00#8, 0x00#8, 0xFF#8, 0xA0#8⟩
      [(0x0010#16, 0xFE#8)])
      ⟨0x00#8, 0x00#8, 0x00#8, 0xFF#8, 0x20#8⟩ 0x0602#16 [(0x0010#16, 0x7F#8)] 5 = true := by decide

theorem test_rol_a_with_c_is_1 :
    runsTo (before 0x0600#16 [0x2A#8] ⟨0x40#8, 0x00#8, 0x00#8, 0xFF#8, 0x21#8⟩
      [])
      ⟨0x81#8, 0x00#8, 0x00#8, 0xFF#8, 0xA0#8⟩ 0x0601#16 [] 2 = true := by decide

theorem test_rol_a_0x80_c_is_0_to_zero :
    runsTo (before 0x0600#16 [0x2A#8] ⟨0x80#8, 0x00#8, 0x00#8, 0xFF#8, 0x20#8⟩
      [])
      ⟨0x00#8, 0x00#8, 0x00#8, 0xFF#8, 0x23#8⟩ 0x0601#16 [] 2 = true := by decide

theorem test_rol_zp :
    runsTo (before 0x0600#16 [0x26#8, 0x10#8] ⟨0x00#8, 0x00#8, 0x00#8, 0xFF#8, 0x21#8⟩
      [(0x0010#16, 0x00#8)])
      ⟨0x00#8, 0x00#8, 0x00#8, 0xFF#8, 0x20#8⟩ 0x0602#16 [(0x0010#16, 0x01#8)] 5 = true := by decide

theorem test_ror_a_with_c_is_1 :
    runsTo (before 0x0600#16 [0x6A#8] ⟨0x00#8, 0x00#8, 0x00#8, 0xFF#8, 0x21#8⟩
      [])
      ⟨0x80#8, 0x00#8, 0x00#8, 0xFF#8, 0xA0#8⟩ 0x0601#16 [] 2 = true := by decide

theorem test_ror_a_0x01_c_is_0_to_zero :
    runsTo (before 0x0600#16 [0x6A#8] ⟨0x01#8, 0x00#8, 0x00#8, 0xFF#8, 0x20#8⟩
      [])
      ⟨0x00#8, 0x00#8, 0x00#8, 0xFF#8, 0x23#8⟩ 0x0601#16 [] 2 = true := by decide

theorem test_ror_zp :
    runsTo (before 0x0600#16 [0x66#8, 0x10#8] ⟨0x00#8, 0x00#8, 0x00#8, 0xFF#8, 0x21#8⟩
      [(0x0010#16, 0x02#8)])
      ⟨0x00#8, 0x00#8, 0x00#8, 0xFF#8, 0xA0#8⟩ 0x0602#16 [(0x0010#16, 0x81#8)] 5 = true := by decide

theorem test_jmp_abs :
    runsTo (before 0x0600#16 [0x4C#8, 0x00#8, 0x07#8] ⟨0x00#8, 0x00#8, 0x00#8, 0xFF#8, 0x20#8⟩
      [])
      ⟨0x00#8, 0x00#8, 0x00#8, 0xFF#8, 0x20#8⟩ 0x0700#16 [] 3 = true := by decide

theorem test_jmp_ind :
    runsTo (before 0x0600#16 [0x6C#8, 0x00#8, 0x02#8] ⟨0x00#8, 0x00#8, 0x00#8, 0xFF#8, 0x20#8⟩
      [(0x0200#16, 0x34#8), (0x0201#16, 0x12#8)])
      ⟨0x00#8, 0x00#8, 0x00#8, 0xFF#8, 0x20#8⟩ 0x1234#16 [] 5 = true := by decide

theorem test_jmp_ind_page_wrap :
    runsTo (before 0x0600#16 [0x6C#8, 0xFF#8, 0x02#8] ⟨0x00#8, 0x00#8, 0x00#8, 0xFF#8, 0x20#8⟩
      [(0x0200#16, 0x07#8), (0x02FF#16, 0x00#8), (0x0300#16, 0x09#8)])
      ⟨0x00#8, 0x00#8, 0x00#8, 0xFF#8, 0x20#8⟩ 0x0700#16 [] 5 = true := by decide

theorem test_jsr :
    runsTo (before 0x0600#16 [0x20#8, 0x00#8, 0x07#8] ⟨0x00#8, 0x00#8, 0x00#8, 0xFF#8, 0x20#8⟩
      [])
      ⟨0x00#8, 0x00#8, 0x00#8, 0xFD#8, 0x20#8⟩ 0x0700#16 [(0x01FE#16, 0x02#8), (0x01FF#16, 0x06#8)] 6 = true := by decide

theorem test_jsr_at_sp_is_00_wraps :
    runsTo (before 0x0600#16 [0x20#8, 0x00#8, 0x07#8] ⟨0x00#8, 0x00#8, 0x00#8, 0x00#8, 0x20#8⟩
      [])
      ⟨0x00#8, 0x00#8, 0x00#8, 0xFE#8, 0x20#8⟩ 0x0700#16 [(0x0100#16, 0x06#8), (0x01FF#16, 0x02#8)] 6 = true := by decide

theorem test_rts :
    runsTo (before 0x0600#16 [0x60#8] ⟨0x00#8, 0x00#8, 0x00#8, 0xFD#8, 0x20#8⟩
      [(0x01FE#16, 0x02#8), (0x01FF#16, 0x06#8)])
      ⟨0x00#8, 0x00#8, 0x00#8, 0xFF#8, 0x20#8⟩ 0x0603#16 [] 6 = true := by decide

theorem test_rts_from_0xffff :
    runsTo (before 0x0600#16 [0x60#8] ⟨0x00#8, 0x00#8, 0x00#8, 0xFD#8, 0x20#8⟩
      [(0x01FE#16, 0xFF#8), (0x01FF#16, 0xFF#8)])
      ⟨0x00#8, 0x00#8, 0x00#8, 0xFF#8, 0x20#8⟩ 0x0000#16 [] 6 = true := by decide

theorem test_bcc_not_taken :
    runsTo (before 0x0600#16 [0x90#8, 0x10#8] ⟨0x00#8, 0x00#8, 0x00#8, 0xFF#8, 0x21#8⟩
      [])
      ⟨0x00#8, 0x00#8, 0x00#8, 0xFF#8, 0x21#8⟩ 0x0602#16 [] 2 = true := by decide

theorem test_bcc_taken_same_page :
    runsTo (before 0x0600#16 [0x90#8, 0x10#8] ⟨0x00#8, 0x00#8, 0x00#8, 0xFF#8, 0x20#8⟩
      [])
      ⟨0x00#8, 0x00#8, 0x00#8, 0xFF#8, 0x20#8⟩ 0x0612#16 [] 3 = true := by decide

theorem test_bcs_taken :
    runsTo (before 0x0600#16 [0xB0#8, 0xFE#8] ⟨0x00#8, 0x00#8, 0x00#8, 0xFF#8, 0x21#8⟩
      [])
      ⟨0x00#8, 0x00#8, 0x00#8, 0xFF#8, 0x21#8⟩ 0x0600#16 [] 3 = true := by decide

theorem test_beq_taken_to_next_page :
    runsTo (before 0x06F0#16 [0xF0#8, 0x20#8] ⟨0x00#8, 0x00#8, 0x00#8, 0xFF#8, 0x22#8⟩
      [])
      ⟨0x00#8, 0x00#8, 0x00#8, 0xFF#8, 0x22#8⟩ 0x0712#16 [] 4 = true := by decide

theorem test_bne_backward :
    runsTo (before 0x0610#16 [0xD0#8, 0xF0#8] ⟨0x00#8, 0x00#8, 0x00#8, 0xFF#8, 0x20#8⟩
      [])
      ⟨0x00#8, 0x00#8, 0x00#8, 0xFF#8, 0x20#8⟩ 0x0602#16 [] 3 = true := by decide

theorem test_bne_not_taken :
    runsTo (before 0x0610#16 [0xD0#8, 0xF0#8] ⟨0x00#8, 0x00#8, 0x00#8, 0xFF#8, 0x22#8⟩
      [])
      ⟨0x00#8, 0x00#8, 0x00#8, 0xFF#8, 0x22#8⟩ 0x0612#16 [] 2 = true := by decide

theorem test_bmi_taken :
    runsTo (before 0x0600#16 [0x30#8, 0x02#8] ⟨0x00#8, 0x00#8, 0x00#8, 0xFF#8, 0xA0#8⟩
      [])
      ⟨0x00#8, 0x00#8, 0x00#8, 0xFF#8, 0xA0#8⟩ 0x0604#16 [] 3 = true := by decide

theorem test_bpl_minus_128_to_previous_page :
    runsTo (before 0x0600#16 [0x10#8, 0x80#8] ⟨0x00#8, 0x00#8, 0x00#8, 0xFF#8, 0x20#8⟩
      [])
      ⟨0x00#8, 0x00#8, 0x00#8, 0xFF#8, 0x20#8⟩ 0x0582#16 [] 4 = true := by decide

theorem test_bvc_plus_127 :
    runsTo (before 0x0600#16 [0x50#8, 0x7F#8] ⟨0x00#8, 0x00#8, 0x00#8, 0xFF#8, 0x20#8⟩
      [])
      ⟨0x00#8, 0x00#8, 0x00#8, 0xFF#8, 0x20#8⟩ 0x0681#16 [] 3 = true := by decide

theorem test_bvs_wraps_0xfff0_plus_0x20 :
    runsTo (before 0xFFF0#16 [0x70#8, 0x20#8] ⟨0x00#8, 0x00#8, 0x00#8, 0xFF#8, 0x60#8⟩
      [])
      ⟨0x00#8, 0x00#8, 0x00#8, 0xFF#8, 0x60#8⟩ 0x0012#16 [] 4 = true := by decide

theorem test_bvs_at_0xfffe :
    runsTo (before 0xFFFE#16 [0x70#8, 0x01#8] ⟨0x00#8, 0x00#8, 0x00#8, 0xFF#8, 0x60#8⟩
      [])
      ⟨0x00#8, 0x00#8, 0x00#8, 0xFF#8, 0x60#8⟩ 0x0001#16 [] 3 = true := by decide

theorem test_clc :
    runsTo (before 0x0600#16 [0x18#8] ⟨0x00#8, 0x00#8, 0x00#8, 0xFF#8, 0x21#8⟩
      [])
      ⟨0x00#8, 0x00#8, 0x00#8, 0xFF#8, 0x20#8⟩ 0x0601#16 [] 2 = true := by decide

theorem test_sec :
    runsTo (before 0x0600#16 [0x38#8] ⟨0x00#8, 0x00#8, 0x00#8, 0xFF#8, 0x20#8⟩
      [])
      ⟨0x00#8, 0x00#8, 0x00#8, 0xFF#8, 0x21#8⟩ 0x0601#16 [] 2 = true := by decide

theorem test_cld :
    runsTo (before 0x0600#16 [0xD8#8] ⟨0x00#8, 0x00#8, 0x00#8, 0xFF#8, 0x28#8⟩
      [])
      ⟨0x00#8, 0x00#8, 0x00#8, 0xFF#8, 0x20#8⟩ 0x0601#16 [] 2 = true := by decide

theorem test_sed :
    runsTo (before 0x0600#16 [0xF8#8] ⟨0x00#8, 0x00#8, 0x00#8, 0xFF#8, 0x20#8⟩
      [])
      ⟨0x00#8, 0x00#8, 0x00#8, 0xFF#8, 0x28#8⟩ 0x0601#16 [] 2 = true := by decide

theorem test_cli :
    runsTo (before 0x0600#16 [0x58#8] ⟨0x00#8, 0x00#8, 0x00#8, 0xFF#8, 0x24#8⟩
      [])
      ⟨0x00#8, 0x00#8, 0x00#8, 0xFF#8, 0x20#8⟩ 0x0601#16 [] 2 = true := by decide

theorem test_sei :
    runsTo (before 0x0600#16 [0x78#8] ⟨0x00#8, 0x00#8, 0x00#8, 0xFF#8, 0x20#8⟩
      [])
      ⟨0x00#8, 0x00#8, 0x00#8, 0xFF#8, 0x24#8⟩ 0x0601#16 [] 2 = true := by decide

theorem test_clv :
    runsTo (before 0x0600#16 [0xB8#8] ⟨0x00#8, 0x00#8, 0x00#8, 0xFF#8, 0x60#8⟩
      [])
      ⟨0x00#8, 0x00#8, 0x00#8, 0xFF#8, 0x20#8⟩ 0x0601#16 [] 2 = true := by decide

theorem test_nop :
    runsTo (before 0x0600#16 [0xEA#8] ⟨0x01#8, 0x02#8, 0x03#8, 0xFF#8, 0xA3#8⟩
      [])
      ⟨0x01#8, 0x02#8, 0x03#8, 0xFF#8, 0xA3#8⟩ 0x0601#16 [] 2 = true := by decide

theorem test_brk :
    runsTo (before 0x0600#16 [0x00#8] ⟨0x00#8, 0x00#8, 0x00#8, 0xFF#8, 0x20#8⟩
      [(0xFFFE#16, 0x00#8), (0xFFFF#16, 0x08#8)])
      ⟨0x00#8, 0x00#8, 0x00#8, 0xFC#8, 0x24#8⟩ 0x0800#16 [(0x01FD#16, 0x30#8), (0x01FE#16, 0x02#8), (0x01FF#16, 0x06#8)] 7 = true := by decide

theorem test_brk_with_i_is_1_still_taken_pushes_i_is_1 :
    runsTo (before 0x0600#16 [0x00#8] ⟨0x00#8, 0x00#8, 0x00#8, 0xFF#8, 0xE7#8⟩
      [(0xFFFE#16, 0x00#8), (0xFFFF#16, 0x08#8)])
      ⟨0x00#8, 0x00#8, 0x00#8, 0xFC#8, 0xE7#8⟩ 0x0800#16 [(0x01FD#16, 0xF7#8), (0x01FE#16, 0x02#8), (0x01FF#16, 0x06#8)] 7 = true := by decide

theorem test_rti :
    runsTo (before 0x0600#16 [0x40#8] ⟨0x00#8, 0x00#8, 0x00#8, 0xFC#8, 0x20#8⟩
      [(0x01FD#16, 0x30#8), (0x01FE#16, 0x02#8), (0x01FF#16, 0x06#8)])
      ⟨0x00#8, 0x00#8, 0x00#8, 0xFF#8, 0x20#8⟩ 0x0602#16 [] 6 = true := by decide

theorem test_rti_restores_flags_b_is_0 :
    runsTo (before 0x0600#16 [0x40#8] ⟨0x00#8, 0x00#8, 0x00#8, 0xFC#8, 0x24#8⟩
      [(0x01FD#16, 0xDB#8), (0x01FE#16, 0x34#8), (0x01FF#16, 0x12#8)])
      ⟨0x00#8, 0x00#8, 0x00#8, 0xFF#8, 0xEB#8⟩ 0x1234#16 [] 6 = true := by decide

/-! Refused, placeholder and interrupt vectors (spec/95_test_vectors.md, part 2), and the worked examples of part 1. -/

/-- Registers of the exception vectors. -/
def atStackTop (p : Byte) : Regs := ⟨0x00#8, 0x00#8, 0x00#8, 0xFF#8, p⟩

/-- The same state with other parameters. -/
def withParams (s : State) (policy : IllegalOpcodePolicy) (lines : Bool) : State :=
  { s with params := { s.params with illegalOpcodePolicy := policy, hasInterruptLines := lines } }

/-- Placeholder costs: `n` for every opcode. -/
def costs (n : Byte) : IllegalOpcodePolicy := .placeholder (Vector.replicate 256 n)

/-- A state at 0x0600 whose next tick fetches the given bytes. -/
def fetching (bytes : List Byte) : State := before 0x0600#16 bytes (atStackTop 0x20#8) []

theorem test_undocumented_refused :
    step (fetching [0x02#8]) = .next { fetching [0x02#8] with refused := some ⟨0x02#8, 0x0600#16⟩ } := rfl

theorem test_refused_has_no_step :
    step { fetching [0x02#8] with refused := some ⟨0x02#8, 0x0600#16⟩ } =
      .refused (.illegalOpcode 0x02#8 0x0600#16) := rfl

theorem test_placeholder_of_two :
    step (withParams (fetching [0xFF#8]) (costs 2) false) =
      .next { withParams (fetching [0xFF#8]) (costs 2) false with
        pc := 0x0601#16, opcode := 0xFF#8, cycles := 1 } := rfl

theorem test_placeholder_of_zero :
    step (withParams (fetching [0x1A#8]) (costs 0) false) =
      .next { withParams (fetching [0x1A#8]) (costs 0) false with
        pc := 0x0601#16, opcode := 0x1A#8, cycles := 0 } := rfl

/-- The state of the IRQ vector. -/
def irqRaised (p : Byte) : State :=
  { withParams (before 0x0600#16 [0xEA#8] (atStackTop p) [(0xFFFF#16, 0x08#8), (0xFFFB#16, 0x09#8)]) .refuse true with
    irqLine := true }

theorem test_irq_taken :
    runsTo (irqRaised 0x20#8) ⟨0x00#8, 0x00#8, 0x00#8, 0xFC#8, 0x24#8⟩ 0x0800#16
      [(0x01FF#16, 0x06#8), (0x01FE#16, 0x00#8), (0x01FD#16, 0x20#8)] 7 = true := by decide

theorem test_irq_masked :
    runsTo (irqRaised 0x24#8) ⟨0x00#8, 0x00#8, 0x00#8, 0xFF#8, 0x24#8⟩ 0x0601#16 [] 2 = true := by decide

theorem test_nmi_taken :
    runsTo { irqRaised 0x34#8 with nmiPending := true, irqLine := false }
      ⟨0x00#8, 0x00#8, 0x00#8, 0xFC#8, 0x34#8⟩ 0x0900#16
      [(0x01FF#16, 0x06#8), (0x01FE#16, 0x00#8), (0x01FD#16, 0x24#8)] 7 = true := by decide

theorem test_nmi_before_irq :
    pendingInterrupt { irqRaised 0x20#8 with nmiPending := true } = some 0xFFFA#16 := by decide

/-- R221 under `Vector`. -/
theorem test_host_reset_vector :
    let s := { poke State.reset [(0xFFFC#16, 0x00#8), (0xFFFD#16, 0x06#8)] with
      a := 0x12#8, sp := 0xF0#8, p := 0xA3#8, params := { Params.default with resetPcSource := .vector } }
    (s.hostMove .reset).observe = ⟨0x00#8, 0x00#8, 0x00#8, 0x00#8, 0x0600#16, 0x20#8, 0x00#8⟩ ∧
    (s.hostMove .reset).mem = s.mem := by decide

/-- L1.5: the first tick from power-on runs BRK at 0x0000, whose pushed PC is 0x0002. -/
theorem test_first_tick_from_reset :
    runsTo State.reset ⟨0x00#8, 0x00#8, 0x00#8, 0xFD#8, 0x24#8⟩ 0x0000#16
      [(0x0100#16, 0x00#8), (0x01FF#16, 0x02#8), (0x01FE#16, 0x30#8)] 7 = true := by decide

/-- L1.6. -/
theorem test_unconnected_tick :
    step { fetching [0xEA#8] with connected := false } =
      .next { fetching [0xEA#8] with connected := false, fault := some (.unconnected 0x0600#16) } := rfl

/-- L1.1: 0x02FF + 1 crosses a page, 0x0200 + 1 does not. -/
theorem test_page_cross :
    (Operand.abx 0x02FF#16).extraCycle { State.reset with x := 1 } = true ∧
    (Operand.abx 0x0200#16).extraCycle { State.reset with x := 1 } = false ∧
    (Operand.aby 0x02FF#16).extraCycle { State.reset with y := 1 } = true ∧
    (Operand.aby 0x0200#16).extraCycle { State.reset with y := 1 } = false := by decide

/-- R194: connect with a reference, and without one. -/
theorem test_connect :
    ({ State.reset with connected := false } : State).connect true = (State.reset, none) ∧
    ({ State.reset with connected := false } : State).connect false =
      ({ State.reset with connected := false }, some .unknown) := by decide

/-- L1.4, the rows of C, U and N, and the byte with every bit but B (0xEF by R26, log entry 15). -/
theorem test_flag_round_trip :
    statusWith 0x20#8 .c true = 0x21#8 ∧ statusWith 0x20#8 .u false = 0x00#8 ∧
    statusWith 0x20#8 .n true = 0xA0#8 ∧ statusWith 0xEF#8 .b true = 0xFF#8 := by decide

/-- The placed word is the one the next step runs. -/
theorem test_with_fetch_word :
    fetchInstr (State.reset.withFetchWord 24 0x12348D) = .staAbs 0x1234#16 ∧
    fetchInstr (State.reset.withFetchWord 16 0xFF02) = .undocumented 0x02#8 := by decide

/-! Witnesses: for each statement with hypotheses, states and operands that meet them together. -/

/-- A state with X = 2, Y = 1 and a pointer 0x02FF at 0x00FF and 0x0000, and one at 0x0010. -/
def indexed : State :=
  { poke State.reset [(0x00FF#16, 0xFF#8), (0x0000#16, 0x02#8), (0x0010#16, 0xFF#8), (0x0011#16, 0x02#8)] with
    x := 2, y := 1 }

theorem fetching_fetches (bytes : List Byte) (h : (fetching bytes).fault = none ∧ (fetching bytes).refused = none)
    (h0 : (fetching bytes).cycles = 0) (hc : (fetching bytes).connected = true)
    (hp : pendingInterrupt (fetching bytes) = none) : (fetching bytes).FetchesNext := ⟨h, h0, hc, hp⟩

theorem witness_DecodeOfEncodeIsTheInstruction :
    (Instr.ldaImm 0xFF#8).wellFormed = true ∧ (Instr.jmpInd 0xFFFF#16).wellFormed = true ∧
    (Instr.undocumented 0x02#8).wellFormed = true := by decide

theorem witness_EncodeOfDecodeIsTheBytes :
    decode [0x8D#8, 0xFF#8, 0xFF#8, 0xEA#8] = .ok (.staAbs 0xFFFF#16, [0xEA#8]) := by decide

theorem witness_LengthFollowsFromTheOpcode :
    (Instr.jsr 0xFFFF#16).wellFormed = true ∧ decode (0x20#8 :: [0x00#8]) = .error (.truncated 0x20#8) := by decide

theorem witness_TickRunsTheDecodedInstruction :
    (Instr.ldaImm 0x80#8).wellFormed = true ∧ (fetching [0xA9#8, 0x80#8]).FetchesNext ∧
    (fetching [0xA9#8, 0x80#8]).Holds (.ldaImm 0x80#8) :=
  ⟨by decide, fetching_fetches _ (by decide) (by decide) (by decide) (by decide), by unfold State.Holds; decide⟩

/-- One cycle left, and the most a byte can hold. -/
theorem witness_ExecutingTickOnlyCountsDown :
    ({ State.reset with cycles := 1 } : State).Running ∧ ({ State.reset with cycles := 1 } : State).cycles ≠ 0 ∧
    ({ State.reset with cycles := 255 } : State).Running ∧ ({ State.reset with cycles := 255 } : State).cycles ≠ 0 := by
  unfold State.Running; decide

/-- A branch to another page, k = 1 and k = 4, the whole of its ticks; no interrupt to take after it. -/
theorem witness_TimingLaw :
    (Instr.bne 0x80#8).mnemonic ≠ .undocumented ∧ (fetching [0xD0#8, 0x80#8]).FetchesNext ∧
    (fetching [0xD0#8, 0x80#8]).Holds (.bne 0x80#8) ∧ totalTicks (.bne 0x80#8) (fetching [0xD0#8, 0x80#8]) = 4 ∧
    ∃ t, exec (.bne 0x80#8) (fetching [0xD0#8, 0x80#8]) = .next t ∧ pendingInterrupt { t with cycles := 0 } = none :=
  ⟨by decide, fetching_fetches _ (by decide) (by decide) (by decide) (by decide), by unfold State.Holds; decide,
    by decide, _, rfl, rfl⟩

theorem witness_BaseCountsByClass :
    (Instr.ldaIzy 0x10#8).mnemonic ∈ [Mnemonic.adc, .and, .cmp, .eor, .lda] ∧
    (Instr.staIzy 0x10#8).mnemonic ∈ [Mnemonic.sta, .stx, .sty] ∧
    (Instr.incAbx 0x0200#16).mnemonic ∈ [Mnemonic.asl, .lsr, .rol, .ror, .inc, .dec] ∧
    Instr.tax.mnemonic ∈ [Mnemonic.tax] ∧ Instr.pha.mnemonic ∈ [Mnemonic.pha, .php] ∧
    Instr.plp.mnemonic ∈ [Mnemonic.pla, .plp] ∧ (Instr.jmpInd 0#16).mnemonic = .jmp ∧
    Instr.rti.mnemonic ∈ [Mnemonic.jsr, .rts, .rti] ∧ Instr.brk.mnemonic = .brk ∧
    (branchCondition (Instr.bne 0#8).mnemonic).isSome = true ∧ (Instr.ldaAbx 0x02FF#16).pageCycle indexed ≠ 0 := by decide

theorem witness_TicksAnswerExactlyWhileRunning :
    State.reset.Running ∧ ¬ ({ State.reset with fault := some (.unconnected 0#16) } : State).Running := by
  unfold State.Running; decide

/-- One operand for each mode, at a wrap where the mode has one. -/
theorem witness_ModesComputeTheirAddress :
    addressOnNumbers { indexed with pc := 0xFFFF#16 } (.imm 0x00#8) = some 0xFFFF ∧
    addressOnNumbers indexed (.zp0 0xFF#8) = some 0x00FF ∧ addressOnNumbers indexed (.zpx 0xFF#8) = some 0x0001 ∧
    addressOnNumbers indexed (.zpy 0xFF#8) = some 0x0000 ∧ addressOnNumbers indexed (.abs 0xFFFF#16) = some 0xFFFF ∧
    addressOnNumbers indexed (.abx 0xFFFF#16) = some 0x0001 ∧ addressOnNumbers indexed (.aby 0xFFFF#16) = some 0x0000 ∧
    addressOnNumbers indexed (.ind 0x00FF#16) = some 0x02FF ∧ addressOnNumbers indexed (.izx 0xFD#8) = some 0x02FF ∧
    addressOnNumbers indexed (.izy 0xFF#8) = some 0x0300 := by decide

theorem witness_ImmediateOperandIsTheByteInMemory :
    (Instr.ldaImm 0x80#8).operand = .imm 0x80#8 ∧ (fetching [0xA9#8, 0x80#8]).Holds (.ldaImm 0x80#8) :=
  ⟨rfl, by unfold State.Holds; decide⟩

theorem witness_LoadsCopyTheirOperand :
    State.reset.connected = true ∧ (Instr.ldaIzx 0xFF#8).mnemonic = .lda ∧ (Instr.ldxZpy 0xFF#8).mnemonic = .ldx ∧
    (Instr.ldyAbx 0xFFFF#16).mnemonic = .ldy := by decide

theorem witness_StoresWriteOneByte :
    State.reset.connected = true ∧ (Instr.staIzy 0xFF#8).mnemonic = .sta ∧ (Instr.stxZpy 0xFF#8).mnemonic = .stx ∧
    (Instr.styAbs 0xFFFF#16).mnemonic = .sty := by decide

/-- SP is 0x00 below where a push wraps, and 0xFF where a pull wraps. -/
theorem witness_TransfersCopyOneRegister : State.reset.connected = true := rfl
theorem witness_PushesStoreAtSp : State.reset.connected = true ∧ State.reset.sp = 0x00#8 := by decide
theorem witness_PullsReadAboveSp : ({ State.reset with sp := 0xFF#8 } : State).connected = true := rfl

theorem witness_AdcAndSbcAddExactly :
    State.reset.connected = true ∧
    ((Instr.adcImm 0xFF#8).mnemonic = .adc ∧ 0xFF#8 = (Instr.adcImm 0xFF#8).source State.reset) ∧
    ((Instr.sbcImm 0x00#8).mnemonic = .sbc ∧ 0xFF#8 = (Instr.sbcImm 0x00#8).source State.reset ^^^ 0xFF#8) := by decide

theorem witness_CarryAndOverflowOnIntegers :
    State.reset.connected = true ∧ (∃ t, exec (.adcImm 0x80#8) State.reset = .next t) ∧
    (∃ t, exec (.sbcImm 0x80#8) State.reset = .next t) ∧ (Instr.adcImm 0x80#8).mnemonic = .adc ∧
    (Instr.sbcImm 0x80#8).mnemonic = .sbc := ⟨rfl, ⟨_, rfl⟩, ⟨_, rfl⟩, rfl, rfl⟩

theorem witness_ComparesSetCarryZeroNegative :
    State.reset.connected = true ∧ ((Instr.cmpImm 0x00#8).mnemonic = .cmp ∧ 0x00#8 = State.reset.a) ∧
    ((Instr.cpxImm 0x01#8).mnemonic = .cpx ∧ 0x00#8 = State.reset.x) ∧
    ((Instr.cpyImm 0xFF#8).mnemonic = .cpy ∧ 0x00#8 = State.reset.y) := by decide

/-- Memory is 0x00 at power-on: INC leaves 0x01, DEC wraps to 0xFF. -/
theorem witness_IncAndDecRewriteMemory :
    State.reset.connected = true ∧
    ((Instr.incZp0 0x10#8).mnemonic = .inc ∧
      0x01#8 = BitVec.ofNat 8 (((Instr.incZp0 0x10#8).source State.reset).toNat + 1)) ∧
    ((Instr.decZp0 0x10#8).mnemonic = .dec ∧
      0xFF#8 = BitVec.ofInt 8 (((Instr.decZp0 0x10#8).source State.reset).toNat - 1)) := by decide

theorem witness_IndexRegistersStepByOne : ({ State.reset with x := 0xFF#8, y := 0x00#8 } : State).connected = true := rfl

theorem witness_LogicWorksBitByBit :
    let s : State := { State.reset with a := 0xF0#8 }
    s.connected = true ∧
    ((Instr.andImm 0x3C#8).mnemonic = .and ∧ ∀ k, (0x30#8).getLsbD k = (s.a.getLsbD k && (0x3C#8).getLsbD k)) ∧
    ((Instr.eorImm 0x3C#8).mnemonic = .eor ∧ ∀ k, (0xCC#8).getLsbD k = Bool.xor (s.a.getLsbD k) ((0x3C#8).getLsbD k)) ∧
    ((Instr.oraImm 0x3C#8).mnemonic = .ora ∧ ∀ k, (0xFC#8).getLsbD k = (s.a.getLsbD k || (0x3C#8).getLsbD k)) := by
  refine ⟨rfl, ⟨rfl, fun k => ?_⟩, ⟨rfl, fun k => ?_⟩, rfl, fun k => ?_⟩
  · exact (congrArg (·.getLsbD k) (by decide : 0x30#8 = 0xF0#8 &&& 0x3C#8)).trans BitVec.getLsbD_and
  · exact (congrArg (·.getLsbD k) (by decide : 0xCC#8 = 0xF0#8 ^^^ 0x3C#8)).trans BitVec.getLsbD_xor
  · exact (congrArg (·.getLsbD k) (by decide : 0xFC#8 = 0xF0#8 ||| 0x3C#8)).trans BitVec.getLsbD_or

theorem witness_BitCopiesTheTopBits :
    State.reset.connected = true ∧ (Instr.bitAbs 0xFFFF#16).mnemonic = .bit := by decide

/-- A shift of each kind, at the corners: the bit that leaves and the bit that enters. -/
theorem witness_ShiftsAndRotatesMoveOneBit :
    let s : State := { State.reset with a := 0x81#8, p := 0x21#8 }
    s.connected = true ∧
    shiftOnNumbers Instr.aslAcc.mnemonic (Instr.aslAcc.source s).toNat (s.getFlag .c).toNat = some (0x02, 1) ∧
    shiftOnNumbers Instr.lsrAcc.mnemonic (Instr.lsrAcc.source s).toNat (s.getFlag .c).toNat = some (0x40, 1) ∧
    shiftOnNumbers Instr.rolAcc.mnemonic (Instr.rolAcc.source s).toNat (s.getFlag .c).toNat = some (0x03, 1) ∧
    shiftOnNumbers (Instr.rorZp0 0x10#8).mnemonic ((Instr.rorZp0 0x10#8).source s).toNat (s.getFlag .c).toNat =
      some (0x80, 0) := by decide

theorem witness_JsrAndRtsUseTheStackedAddress : State.reset.connected = true ∧ State.reset.sp = 0x00#8 := by decide

/-- From SP = 0x00, where both pushes are on either side of the wrap. -/
theorem witness_RtsReturnsFromJsr :
    ∃ t w, State.reset.connected = true ∧ Memory.wf State.reset.mem = true ∧
      exec (.jsr 0x0700#16) State.reset = .next t ∧ t.connected = true ∧ exec .rts t = .next w :=
  ⟨_, _, rfl, rfl, rfl, rfl, rfl⟩

/-- A branch that falls through, and the same branch taken to another page and in its page. -/
theorem witness_BranchesFollowTheirFlag :
    State.reset.connected = true ∧ (Instr.bne 0x80#8).operand = .rel 0x80#8 ∧
    branchCondition (Instr.bne 0x80#8).mnemonic = some (.z, false) ∧ State.reset.getFlag .z = false ∧
    (State.reset.setFlag .z true).connected = true ∧ (State.reset.setFlag .z true).getFlag .z ≠ false := by decide

theorem witness_JmpGoesToItsAddress : State.reset.connected = true := rfl
theorem witness_FlagInstructionsWriteOneFlag : State.reset.connected = true := rfl
theorem witness_BrkEntersThroughItsVector : State.reset.connected = true ∧ State.reset.sp = 0x00#8 := by decide
theorem witness_RtiRestoresStatusAndPc : ({ State.reset with sp := 0xFF#8 } : State).connected = true := rfl

theorem witness_RtiReturnsFromBrk :
    ∃ t w, State.reset.connected = true ∧ Memory.wf State.reset.mem = true ∧
      exec .brk State.reset = .next t ∧ t.connected = true ∧ exec .rti t = .next w :=
  ⟨_, _, rfl, rfl, rfl, rfl, rfl⟩

theorem witness_NopOnlyAdvancesPc : ({ State.reset with pc := 0xFFFF#16 } : State).connected = true := rfl

theorem witness_UndocumentedIsRefused :
    (fetching [0x02#8]).params.illegalOpcodePolicy = .refuse ∧ (fetching [0x02#8]).connected = true ∧
    0x02#8 ∈ undocumentedOpcodes ∧ (fetching [0x02#8]).FetchesNext ∧
    (fetching [0x02#8]).read (fetching [0x02#8]).pc = 0x02#8 :=
  ⟨by decide, by decide, by decide, fetching_fetches _ (by decide) (by decide) (by decide) (by decide), by decide⟩

/-- Costs 0 and 255. -/
theorem witness_UndocumentedAsPlaceholder :
    ∀ n ∈ [0x00#8, 0xFF#8],
      let s := withParams (fetching [0xFF#8]) (costs n) false
      s.params.illegalOpcodePolicy = .placeholder (Vector.replicate 256 n) ∧ s.connected = true ∧
      0xFF#8 ∈ undocumentedOpcodes ∧ s.FetchesNext ∧ s.read s.pc = 0xFF#8 := by
  intro n _
  exact ⟨rfl, rfl, by decide, ⟨⟨rfl, rfl⟩, rfl, rfl, rfl⟩, (by decide : (fetching [0xFF#8]).read 0x0600#16 = 0xFF#8)⟩

theorem witness_InterruptEntrySavesAndVectors :
    let s := irqRaised 0x20#8
    let n : State := { irqRaised 0x24#8 with nmiPending := true }
    (s.Running ∧ s.cycles = 0 ∧ s.connected = true ∧ s.params.hasInterruptLines = true ∧ s.nmiPending = false ∧
      s.irqLine = true ∧ s.getFlag .i = false) ∧
    (n.Running ∧ n.cycles = 0 ∧ n.connected = true ∧ n.params.hasInterruptLines = true ∧ n.nmiPending = true) := by
  unfold State.Running; decide

theorem witness_MaskedOrAbsentInterruptsFetch :
    (State.reset.Running ∧ State.reset.cycles = 0 ∧ State.reset.params.hasInterruptLines = false) ∧
    ((irqRaised 0x24#8).Running ∧ (irqRaised 0x24#8).cycles = 0 ∧ (irqRaised 0x24#8).nmiPending = false ∧
      (irqRaised 0x24#8).getFlag .i = true) := by
  unfold State.Running; decide

theorem witness_UnconnectedTickRecordsTheFault :
    let s : State := { State.reset with connected := false }
    s.Running ∧ s.cycles = 0 ∧ s.connected = false := by
  unfold State.Running; decide

theorem witness_MemoryPortNeedsTheConnection :
    ({ State.reset with connected := false } : State).connected = false ∧ State.reset.connected = true ∧
    Memory.wf State.reset.mem = true := by decide

/-- A step that records a fault, and one that records a refusal. -/
theorem witness_MarksAreRecordedForTheirCauseOnly :
    (∃ t, step { State.reset with connected := false } = .next t ∧ t.fault ≠ none) ∧
    (∃ t, step (fetching [0x02#8]) = .next t ∧ t.refused ≠ none) :=
  ⟨⟨_, rfl, by decide⟩, ⟨_, test_undocumented_refused, by decide⟩⟩

/-- A store, a shift of A, and a push at SP = 0x00. -/
theorem witness_OnlyStoredBytesChange :
    (∃ t, exec (.staZp0 0x10#8) State.reset = .next t) ∧ 0x0011#16 ∉ storesOf (.staZp0 0x10#8) State.reset ∧
    (∃ t, exec .aslAcc State.reset = .next t) ∧ storesOf .aslAcc State.reset = [] ∧
    (∃ t, exec .brk State.reset = .next t) ∧ 0x0101#16 ∉ storesOf .brk State.reset :=
  ⟨⟨_, rfl⟩, by decide, ⟨_, rfl⟩, by decide, ⟨_, rfl⟩, by decide⟩

theorem witness_FlagsChangeOnlyByTheirWriters :
    ∃ t, exec .sec State.reset = .next t ∧ t.getFlag .c ≠ State.reset.getFlag .c := ⟨_, rfl, by decide⟩

theorem witness_RegistersChangeOnlyByTheirWriters :
    (∃ t, exec (.ldaImm 0x01#8) State.reset = .next t ∧ t.a ≠ State.reset.a) ∧
    (∃ t, exec .inx State.reset = .next t ∧ t.x ≠ State.reset.x) ∧
    (∃ t, exec .dey State.reset = .next t ∧ t.y ≠ State.reset.y) ∧
    (∃ t, exec .pha State.reset = .next t ∧ t.sp ≠ State.reset.sp) :=
  ⟨⟨_, rfl, by decide⟩, ⟨_, rfl, by decide⟩, ⟨_, rfl, by decide⟩, ⟨_, rfl, by decide⟩⟩

/-- At PC = 0xFFFE, where the operand and the next PC wrap. -/
theorem witness_PcAdvancesByTheLength :
    let s : State := { State.reset with pc := 0xFFFE#16 }
    s.connected = true ∧ (∃ t, exec (.staAbs 0x0200#16) s = .next t) ∧
    (Instr.staAbs 0x0200#16).mnemonic ∉ [Mnemonic.jsr, .rts, .bcc, .jmp, .brk, .rti, .undocumented] :=
  ⟨rfl, ⟨_, rfl⟩, by decide⟩

/-- A tick that takes a pending NMI, and so clears it. -/
theorem witness_TicksLeaveTheHostsSideAlone :
    let s : State := { irqRaised 0x24#8 with nmiPending := true }
    ∃ t, step s = .next t ∧ t.nmiPending ≠ s.nmiPending := ⟨_, rfl, by decide⟩

/-- Two states that differ in a scratch field. -/
theorem witness_ScratchFieldsCarryNothing :
    State.reset.visible = ({ State.reset with fetched := 0xFF#8 } : State).visible ∧
    State.reset ≠ { State.reset with fetched := 0xFF#8 } := by decide

theorem witness_DecimalFlagHasNoEffect :
    (Instr.adcImm 0x05#8).mnemonic ∉ [Mnemonic.php, .brk] ∧ (∃ t, exec (.adcImm 0x05#8) State.reset = .next t) ∧
    (∃ t, exec (.adcImm 0x05#8) (State.reset.setFlag .d true) = .next t) ∧
    (State.reset.setFlag .d true).p ≠ State.reset.p :=
  ⟨by decide, ⟨_, rfl⟩, ⟨_, rfl⟩, by decide⟩

theorem witness_ResultsDoNotDependOnTheCounter :
    (Instr.ldaImm 0x01#8).mnemonic ≠ .undocumented ∧ State.reset.connected = true := by decide

theorem inv_of_checks {s : State} (h : Memory.wf s.mem = true ∧ s.getFlag .u = true ∧
    (s.fault = none ∨ s.refused = none) ∧
    (s.params.hasInterruptLines = false → s.irqLine = false ∧ s.nmiLine = false ∧ s.nmiPending = false)) : s.Inv :=
  ⟨h.1, h.2.1, h.2.2.1, h.2.2.2⟩

/-- The invariant at reset, at a store and at an interrupt entry. -/
theorem witness_TickKeepsTheInvariant :
    State.reset.Inv ∧ (∃ t, step State.reset = .next t) ∧ (fetching [0x85#8, 0x10#8]).Inv ∧
    (∃ t, step (fetching [0x85#8, 0x10#8]) = .next t) ∧ (irqRaised 0x20#8).Inv ∧
    (∃ t, step (irqRaised 0x20#8) = .next t) :=
  ⟨inv_of_checks (by decide), ⟨_, rfl⟩, inv_of_checks (by decide), ⟨_, rfl⟩, inv_of_checks (by decide), ⟨_, rfl⟩⟩

theorem witness_TickKeepsBreakClear :
    State.reset.getFlag .b = false ∧ ∃ t, step State.reset = .next t := ⟨by decide, _, rfl⟩

/-- BRK, the longest instruction, and a counter of 7. -/
theorem witness_CounterStaysSmall :
    Instr.brk.mnemonic ≠ .undocumented ∧ State.reset.connected = true ∧ (∃ t, exec .brk State.reset = .next t) ∧
    State.reset.params.illegalOpcodePolicy = .refuse ∧ ({ State.reset with cycles := 7 } : State).cycles.toNat ≤ 7 ∧
    ∃ t, step { State.reset with cycles := 7 } = .next t :=
  ⟨by decide, rfl, ⟨_, rfl⟩, rfl, by decide, _, rfl⟩

theorem witness_HostMovesKeepTheInvariant :
    HostMove.setFlag .u true ≠ .setFlag .u false ∧ HostMove.reset ≠ .setFlag .u false ∧ State.reset.Inv :=
  ⟨by decide, by decide, inv_of_checks (by decide)⟩

theorem witness_PowerOnValues :
    (⟨.constant 0x0600#16, .refuse, true⟩ : Params).resetPcSource = .constant 0x0600#16 ∧
    (⟨.vector, .refuse, true⟩ : Params).resetPcSource = .vector := by decide

theorem witness_HostResetRestoresRegisters :
    State.reset.params.resetPcSource = .constant 0x0000#16 ∧
    (State.powerOn ⟨.vector, .refuse, false⟩).params.resetPcSource = .vector := by decide

theorem witness_HostWritesNoOtherRegister :
    HostMove.busWrite 0xFFFF#16 0xFF#8 ≠ .reset ∧ ∀ f b, HostMove.busWrite 0xFFFF#16 0xFF#8 ≠ .setFlag f b :=
  ⟨by decide, fun _ _ h => by cases h⟩

theorem witness_FlagPrimitivesRoundTrip : 7 < 8 ∧ 7 ≠ Flag.c.pos ∧ 0 < 8 ∧ 0 ≠ Flag.n.pos := by decide

theorem witness_LinesAreDrivenByTheHost :
    (irqRaised 0x20#8).params.hasInterruptLines = true ∧ State.reset.params.hasInterruptLines = false := by decide

end Sys2Proof.Tests
end

section
/-! SUPPORT. What an operation can write (R92, R94): the branches as one, the report, and the frame of the registers,
the flags and the counter; before it, the bits of P and the forms whose operand is A. -/

namespace Sys2Proof.Machine

/-- A bit of P is a flag's (R26). -/
theorem Flag.exists_pos_eq {k : Nat} (hk : k < 8) : ∃ f : Flag, f.pos = k := by
  match k, hk with
  | 0, _ => exact ⟨.c, rfl⟩
  | 1, _ => exact ⟨.z, rfl⟩
  | 2, _ => exact ⟨.i, rfl⟩
  | 3, _ => exact ⟨.d, rfl⟩
  | 4, _ => exact ⟨.b, rfl⟩
  | 5, _ => exact ⟨.u, rfl⟩
  | 6, _ => exact ⟨.v, rfl⟩
  | 7, _ => exact ⟨.n, rfl⟩

/-- A form whose operand is A is a shift or a rotate (R76). -/
theorem mnemonic_of_operand_acc {i : Instr} (h : i.operand = .acc) :
    i.mnemonic ∈ [Mnemonic.asl, .lsr, .rol, .ror] := by
  cases i <;> cases h <;> decide

/-- The eight branches are `Branch(cond)` of R163 on their flag (R164 to R171). -/
theorem operation_eq_branch {mn : Mnemonic} {op : Operation} {f : Flag} {b : Bool} (h : mn.operation = some op)
    (hb : branchCondition mn = some (f, b)) (m : Operand) (s : State) : op m s = branch (s.getFlag f == b) s := by
  cases mn <;> cases hb <;> cases h
  all_goals simp [opBcc, opBcs, opBeq, opBmi, opBne, opBpl, opBvc, opBvs]

/-- `e_op` is the mnemonic's alone (R94). -/
theorem operation_report {mn : Mnemonic} {op : Operation} (h : mn.operation = some op) (m : Operand) (s : State) :
    (op m s).2 = mn.reportsExtra := by
  rcases hb : branchCondition mn with _ | ⟨f, b⟩
  · cases mn <;> cases hb <;> cases h <;> rfl
  · rw [operation_eq_branch h hb, branch_report]
    cases mn <;> cases hb <;> rfl

/-- The registers and flags an instruction leaves unchanged: each one outside its writers (R21 to R24, R27). A is
written too by a form whose operand is A. -/
structure RegisterFrame (mn : Mnemonic) (m : Operand) (s t : State) : Prop where
  a : m ≠ .acc → mn ∉ [Mnemonic.lda, .txa, .tya, .pla, .adc, .sbc, .and, .eor, .ora] → t.a = s.a
  x : mn ∉ [Mnemonic.ldx, .tax, .tsx, .inx, .dex] → t.x = s.x
  y : mn ∉ [Mnemonic.ldy, .tay, .iny, .dey] → t.y = s.y
  sp : mn ∉ [Mnemonic.txs, .pha, .php, .pla, .plp, .jsr, .rts, .brk, .rti] → t.sp = s.sp
  flag : ∀ f, mn ∉ flagWriters f → t.getFlag f = s.getFlag f

/-- What an operation leaves unchanged: the registers and flags, and the counter unless it is a branch (R163). -/
structure OperationFrame (mn : Mnemonic) (m : Operand) (s t : State) : Prop extends RegisterFrame mn m s t where
  cycles : branchCondition mn = none → t.cycles = s.cycles

theorem operation_frame {mn : Mnemonic} {op : Operation} (h : mn.operation = some op) (m : Operand) (s : State) :
    OperationFrame mn m s (op m s).1 := by
  cases mn <;> cases h
  all_goals refine ⟨⟨?_, ?_, ?_, ?_, fun f hf => ?_⟩, ?_⟩
  all_goals
    simp +contextual [State.getFlag, branchCondition, opLda, opLdx, opLdy, opSta, opStx, opSty, opTax, opTay, opTxa,
      opTya, opTsx, opTxs, opPha, opPhp, opPla, opPlp, opAdc, opSbc, opCmp, opCpx, opCpy, opInc, opDec, opInx, opIny,
      opDex, opDey, opAnd, opEor, opOra, opBit, shiftWith, opAsl, opLsr, opRol, opRor, opJsr, opRts, opBcc, opBcs,
      opBeq, opBmi, opBne, opBpl, opBvc, opBvs, opJmp, opClc, opCld, opCli, opClv, opSec, opSed, opSei, opBrk, opRti,
      opNop]
  -- What remains are the flags, for the operations that write one.
  all_goals cases f <;> simp [flagWriters] at hf ⊢

end Sys2Proof.Machine
end

section
/-! SUPPORT. What an instruction and a tick leave unchanged, and the invariants a tick keeps. -/

namespace Sys2Proof.Machine

theorem runOperation_registerFrame {i : Instr} {op : Operation} (h : i.mnemonic.operation = some op) (s : State) :
    RegisterFrame i.mnemonic i.operand s (runOperation i.operand op (i.entry s)) := by
  have k := operation_frame h i.operand (i.operand.resolve (i.entry s))
  constructor
  · intro hm hw; rw [runOperation_a, k.a hm hw]; simp
  · intro hw; rw [runOperation_x, k.x hw]; simp
  · intro hw; rw [runOperation_y, k.y hw]; simp
  · intro hw; rw [runOperation_sp, k.sp hw]; simp
  · intro f hf; exact (k.flag f hf).trans (resolve_getFlag i s f)

/-- The fetch of an undocumented opcode marks the refusal alone, or latches the opcode and sets the counter (R186). -/
theorem undocumentedFetch_cases (op : Byte) (s : State) :
    (s.params.illegalOpcodePolicy = .refuse ∧ undocumentedFetch op s = { s with refused := some ⟨op, s.pc⟩ }) ∨
    (s.params.illegalOpcodePolicy ≠ .refuse ∧ ∃ n, undocumentedFetch op s = s.startFetch op n) := by
  unfold undocumentedFetch
  split
  · next hp => exact .inl ⟨hp, rfl⟩
  · next hp => exact .inr ⟨by simp [hp], _, rfl⟩

/-- The registers and P stay when a tick marks a stop or only latches an opcode. -/
theorem registerFrame_of_eq {mn : Mnemonic} {m : Operand} {s t : State} (ha : t.a = s.a) (hx : t.x = s.x)
    (hy : t.y = s.y) (hsp : t.sp = s.sp) (hp : t.p = s.p) : RegisterFrame mn m s t :=
  ⟨fun _ _ => ha, fun _ => hx, fun _ => hy, fun _ => hsp, fun f _ => State.getFlag_of_p_eq s t hp f⟩

/-- Every meaning leaves a register and a flag outside their writers as they were, also where it stops. -/
theorem exec_registerFrame {i : Instr} {s t : State} (h : exec i s = .next t) :
    RegisterFrame i.mnemonic i.operand s t := by
  rcases exec_cases h with ⟨_, rfl⟩ | ⟨_, op, rfl, rfl⟩ | ⟨_, op, hop, rfl⟩
  · exact registerFrame_of_eq rfl rfl rfl rfl rfl
  · rcases undocumentedFetch_cases op s with ⟨_, e⟩ | ⟨_, n, e⟩ <;> rw [e] <;>
      exact registerFrame_of_eq rfl rfl rfl rfl rfl
  · exact runOperation_registerFrame hop s

/-- The two operations that load P load it with B = 0 and U = 1 (R29, R129, R184). -/
theorem operation_loads_status {mn : Mnemonic} {op : Operation} (hw : mn ∈ [Mnemonic.plp, .rti])
    (h : mn.operation = some op) (m : Operand) (s : State) : (op m s).1.p = pulledStatus s.pulled := by
  rcases List.mem_pair.1 hw with rfl | rfl <;> cases h
  · rfl
  · exact State.returnFromException_p s

/-- B and U after an instruction: as they were, or 0 and 1 (R28, R29). -/
theorem exec_getFlag_b_u {i : Instr} {s t : State} (h : exec i s = .next t) :
    (t.getFlag .b = s.getFlag .b ∧ t.getFlag .u = s.getFlag .u) ∨ (t.getFlag .b = false ∧ t.getFlag .u = true) := by
  have k := exec_registerFrame h
  by_cases hw : i.mnemonic ∈ [Mnemonic.plp, .rti]
  · rcases exec_cases h with ⟨_, rfl⟩ | ⟨_, op, rfl, rfl⟩ | ⟨_, op, hop, rfl⟩
    · exact .inl ⟨rfl, rfl⟩
    · simp [Instr.mnemonic] at hw
    · simp [State.getFlag, operation_loads_status hw hop]
  · exact .inl ⟨k.flag .b hw, k.flag .u hw⟩

/-! The host's side (R33, R36, R201). -/

theorem keepsHostSide_countDown (s : State) : KeepsHostSide s s.countDown := by
  constructor <;> simp

/-- No meaning writes the connection, the parameters or the interrupt state. -/
theorem exec_keeps_connection_and_lines {i : Instr} {s t : State} (h : exec i s = .next t) :
    t.connected = s.connected ∧ t.params = s.params ∧ t.irqLine = s.irqLine ∧ t.nmiLine = s.nmiLine ∧
      t.nmiPending = s.nmiPending := by
  rcases exec_cases h with ⟨_, rfl⟩ | ⟨_, op, rfl, rfl⟩ | ⟨_, op, hop, rfl⟩
  · exact ⟨rfl, rfl, rfl, rfl, rfl⟩
  · rcases undocumentedFetch_cases op s with ⟨_, e⟩ | ⟨_, n, e⟩ <;> rw [e] <;> exact ⟨rfl, rfl, rfl, rfl, rfl⟩
  · have k := runOperation_keepsHostSide hop s
    exact ⟨k.connected, k.params, k.irqLine, k.nmiLine, k.nmiPending⟩

/-! The counter (R31, R95, R96, R163). -/

theorem bit_toNat_le_one (b : Bool) : (bit b).toNat ≤ 1 := by
  rw [bit_toNat]
  exact Bool.toNat_le b

/-- The base counts of the dispatch table (R72). -/
theorem baseCycles_bounds {i : Instr} (h : i.mnemonic ≠ .undocumented) :
    2 ≤ i.baseCycles.toNat ∧ i.baseCycles.toNat ≤ 7 := by
  cases i with
  | undocumented => exact absurd rfl h
  | _ =>
    simp only [Instr.baseCycles, Instr.opcode, encode, encodeAbs, List.headD_cons]
    decide

theorem baseCycles_of_branch {i : Instr} {c : Flag × Bool} (h : branchCondition i.mnemonic = some c) :
    i.baseCycles = 2 := by
  cases i <;> cases h
  all_goals
    simp only [Instr.baseCycles, Instr.opcode, encode, List.headD_cons]
    rfl

theorem reportsExtra_of_branch {mn : Mnemonic} {c : Flag × Bool} (h : branchCondition mn = some c) :
    mn.reportsExtra = false := by
  cases mn <;> cases h <;> rfl

theorem mnemonic_ne_undocumented {i : Instr} {op : Operation} (h : i.mnemonic.operation = some op) :
    i.mnemonic ≠ .undocumented := by
  intro e
  rw [e] at h
  cases h

/-- A documented instruction leaves 1 to 8 in the counter: its base count with the page-cross cycle, or the 2, 3 or 4
of a branch. -/
theorem runOperation_cycles_bounds {i : Instr} {op : Operation} (h : i.mnemonic.operation = some op) (s : State) :
    1 ≤ (runOperation i.operand op (i.entry s)).cycles.toNat ∧
      (runOperation i.operand op (i.entry s)).cycles.toNat ≤ 8 := by
  rw [runOperation_cycles, operation_report h]
  rcases hb : branchCondition i.mnemonic with _ | ⟨f, b⟩
  · rw [(operation_frame h _ _).cycles hb, Operand.resolve_cycles, entry_cycles]
    have hbase := baseCycles_bounds (mnemonic_ne_undocumented h)
    have hbit := bit_toNat_le_one (i.operand.extraCycle (i.entry s) && i.mnemonic.reportsExtra)
    bv_omega
  · rw [operation_eq_branch h hb, branch_cycles, Operand.resolve_cycles, entry_cycles, baseCycles_of_branch hb,
      reportsExtra_of_branch hb, Bool.and_false]
    have hbit := bit_toNat_le_one (pageCross (branchTarget (i.operand.resolve (i.entry s)))
      (i.operand.resolve (i.entry s)).pc)
    have h0 : bit false = 0 := rfl
    split <;> bv_omega

/-- Under `Refuse` an instruction leaves at most 8 in the counter it finds at 0. -/
theorem exec_cycles_le {i : Instr} {s t : State} (hp : s.params.illegalOpcodePolicy = .refuse) (h0 : s.cycles = 0)
    (h : exec i s = .next t) : t.cycles.toNat ≤ 8 := by
  rcases exec_cases h with ⟨_, rfl⟩ | ⟨_, op, rfl, rfl⟩ | ⟨_, op, hop, rfl⟩
  · simp [h0]
  · rcases undocumentedFetch_cases op s with ⟨_, e⟩ | ⟨hn, _⟩
    · simp [e, h0]
    · exact absurd hp hn
  · exact (runOperation_cycles_bounds hop s).2

/-! The invariant. -/

theorem inv_of_keepsHostSide {s t : State} (hs : s.Inv) (k : KeepsHostSide s t) (hmem : Memory.wf t.mem = true)
    (hu : t.getFlag .u = true) : t.Inv := by
  refine ⟨hmem, hu, ?_, ?_⟩
  · rw [k.fault, k.refused]
    exact hs.oneMark
  · rw [k.params, k.irqLine, k.nmiLine, k.nmiPending]
    exact hs.noLines

theorem inv_countDown {s : State} (hs : s.Inv) : s.countDown.Inv := by
  refine inv_of_keepsHostSide hs (keepsHostSide_countDown s) ?_ ?_
  · rw [State.countDown_mem]
    exact hs.memory
  · rw [State.getFlag_of_p_eq s _ (State.countDown_p s)]
    exact hs.unusedSet

theorem inv_markFault {s : State} (hs : s.Inv) (hr : s.refused = none) (f : Fault) : { s with fault := some f }.Inv :=
  ⟨hs.memory, hs.unusedSet, .inr hr, hs.noLines⟩

theorem inv_undocumentedFetch {s : State} (hs : s.Inv) (hf : s.fault = none) (op : Byte) :
    (undocumentedFetch op s).Inv := by
  rcases undocumentedFetch_cases op s with ⟨_, e⟩ | ⟨_, n, e⟩ <;> rw [e]
  · exact ⟨hs.memory, hs.unusedSet, .inl hf, hs.noLines⟩
  · exact ⟨hs.memory, hs.unusedSet, hs.oneMark, hs.noLines⟩

theorem inv_interruptEntry {s : State} (hs : s.Inv) (v : Addr) : (interruptEntry v s).Inv := by
  refine ⟨?_, ?_, ?_, ?_⟩
  · rw [interruptEntry_mem]
    exact State.wf_push _ _ (State.wf_push16 _ _ hs.memory)
  · rw [State.getFlag, interruptEntry_p, statusFlag_statusWith]
    exact hs.unusedSet
  · rw [interruptEntry_fault, interruptEntry_refused]
    exact hs.oneMark
  · intro hl
    rw [interruptEntry_params] at hl
    obtain ⟨hirq, hnmi, hpending⟩ := hs.noLines hl
    simp [hirq, hnmi, hpending]

theorem inv_exec {i : Instr} {s t : State} (hs : s.Inv) (hr : s.Running) (h : exec i s = .next t) : t.Inv := by
  have hu : t.getFlag .u = true := by
    rcases exec_getFlag_b_u h with ⟨_, hu⟩ | ⟨_, hu⟩
    · exact hu.trans hs.unusedSet
    · exact hu
  rcases exec_cases h with ⟨_, rfl⟩ | ⟨_, op, rfl, rfl⟩ | ⟨_, op, hop, rfl⟩
  · exact inv_markFault hs hr.2 _
  · exact inv_undocumentedFetch hs hr.1 op
  · refine inv_of_keepsHostSide hs (runOperation_keepsHostSide hop s) ?_ hu
    exact operation_wf hop _ _ (by simpa using hs.memory)

/-! An Idle tick answers a state (R95, R204). -/

theorem idleTick_answers (s : State) : ∃ t, idleTick s = .next t := by
  have hbus (body : State → State) : ∃ t, onBus s body = .next t := by
    rcases Bool.eq_false_or_eq_true s.connected with hc | hc
    · exact ⟨_, onBus_connected hc body⟩
    · exact ⟨_, onBus_unconnected hc body⟩
  unfold idleTick
  split
  · next v _ =>
    obtain ⟨t, ht⟩ := hbus (interruptEntry v)
    exact ⟨t.countDown, by rw [ht]; rfl⟩
  · obtain ⟨t, ht⟩ := exec_answers (fetchInstr s) s
    exact ⟨t.countDown, by rw [ht]; rfl⟩

theorem step_idle {s : State} (h : s.Running) (h0 : s.cycles = 0) : step s = idleTick s := by
  unfold step
  rw [h.1, h.2]
  simp only [h0, if_true]

end Sys2Proof.Machine
end

section
/-! SUPPORT. The scratch fields carry nothing (R34): two states that agree on everything else stay so. Each resolver
writes the one scratch field its operations read, so what a tick finds in the scratch fields reaches nothing. -/

namespace Sys2Proof.Machine

/-- `s` with other scratch fields (R34). -/
def State.withScratch (s : State) (opcode fetched : Byte) (addrAbs addrRel : Addr) : State :=
  { s with opcode := opcode, fetched := fetched, addrAbs := addrAbs, addrRel := addrRel }

theorem exists_withScratch {s t : State} (h : s.visible = t.visible) :
    ∃ o f a r, t = s.withScratch o f a r := by
  refine ⟨t.opcode, t.fetched, t.addrAbs, t.addrRel, ?_⟩
  cases s
  cases t
  cases h
  rfl

section
variable (s : State) (o f : Byte) (a r : Addr)

@[simp] theorem State.withScratch_a : (s.withScratch o f a r).a = s.a := rfl
@[simp] theorem State.withScratch_x : (s.withScratch o f a r).x = s.x := rfl
@[simp] theorem State.withScratch_y : (s.withScratch o f a r).y = s.y := rfl
@[simp] theorem State.withScratch_sp : (s.withScratch o f a r).sp = s.sp := rfl
@[simp] theorem State.withScratch_p : (s.withScratch o f a r).p = s.p := rfl
@[simp] theorem State.withScratch_pc : (s.withScratch o f a r).pc = s.pc := rfl
@[simp] theorem State.withScratch_cycles : (s.withScratch o f a r).cycles = s.cycles := rfl
@[simp] theorem State.withScratch_addrAbs : (s.withScratch o f a r).addrAbs = a := rfl
@[simp] theorem State.withScratch_connected : (s.withScratch o f a r).connected = s.connected := rfl
@[simp] theorem State.withScratch_fault : (s.withScratch o f a r).fault = s.fault := rfl
@[simp] theorem State.withScratch_refused : (s.withScratch o f a r).refused = s.refused := rfl
@[simp] theorem State.withScratch_irqLine : (s.withScratch o f a r).irqLine = s.irqLine := rfl
@[simp] theorem State.withScratch_nmiLine : (s.withScratch o f a r).nmiLine = s.nmiLine := rfl
@[simp] theorem State.withScratch_nmiPending : (s.withScratch o f a r).nmiPending = s.nmiPending := rfl
@[simp] theorem State.withScratch_mem : (s.withScratch o f a r).mem = s.mem := rfl
@[simp] theorem State.withScratch_params : (s.withScratch o f a r).params = s.params := rfl

end

/-! The resolver: the visible part, and the scratch field its mode writes, depend on the visible part only. -/

/-- The modes that write `addr_abs` (R77 to R86). -/
def Operand.writesAddress : Operand → Bool
  | .imp | .acc | .rel _ => false
  | _ => true

theorem Operand.resolve_visible {s t : State} (m : Operand) (h : s.visible = t.visible) :
    (m.resolve s).visible = (m.resolve t).visible := by
  obtain ⟨o, f, a, r, rfl⟩ := exists_withScratch h
  cases m <;> rfl

theorem Operand.resolve_addrAbs_eq {s t : State} {m : Operand} (hm : m.writesAddress = true)
    (h : s.visible = t.visible) : (m.resolve s).addrAbs = (m.resolve t).addrAbs := by
  obtain ⟨o, f, a, r, rfl⟩ := exists_withScratch h
  cases m <;> cases hm <;> rfl

theorem Operand.value_resolve_eq {s t : State} {m : Operand} (hm : m.mode ≠ .rel) (h : s.visible = t.visible) :
    m.value (m.resolve s) = m.value (m.resolve t) := by
  obtain ⟨o, f, a, r, rfl⟩ := exists_withScratch h
  cases m with
  | rel d => exact absurd rfl hm
  | _ => rfl

theorem Operand.resolve_addrRel_eq {m : Operand} (hm : m.mode = .rel) (s t : State) :
    (m.resolve s).addrRel = (m.resolve t).addrRel := by
  cases m <;> cases hm
  rfl

theorem Operand.extraCycle_eq {s t : State} (m : Operand) (h : s.visible = t.visible) :
    m.extraCycle s = m.extraCycle t := by
  obtain ⟨o, f, a, r, rfl⟩ := exists_withScratch h
  cases m <;> rfl

/-! The operation: the visible part it leaves depends on the visible part, and on the scratch fields it reads. -/

/-- Whether an operation uses `addr_abs` beside its operand byte: as the address it writes or jumps to. -/
def usesAddress (mn : Mnemonic) (m : Operand) : Bool :=
  match mn with
  | .sta | .stx | .sty | .jsr | .jmp => true
  | .inc | .dec | .asl | .lsr | .rol | .ror => m != .acc
  | _ => false

theorem writesAddress_of_usesAddress {i : Instr} (h : usesAddress i.mnemonic i.operand = true) :
    i.operand.writesAddress = true := by
  cases i <;> cases h <;> rfl

theorem mode_eq_rel_iff {i : Instr} : i.operand.mode = .rel ↔ (branchCondition i.mnemonic).isSome = true := by
  cases i <;> simp [Instr.operand, Instr.mnemonic, Operand.mode, branchCondition]

theorem operation_visible {mn : Mnemonic} {op : Operation} (h : mn.operation = some op)
    (hb : branchCondition mn = none) {m : Operand} {s t : State} (hv : s.visible = t.visible)
    (hval : m.value s = m.value t) (haddr : usesAddress mn m = true → s.addrAbs = t.addrAbs) :
    (op m s).1.visible = (op m t).1.visible := by
  obtain ⟨o, f, a, r, rfl⟩ := exists_withScratch hv
  cases mn <;> cases hb <;> cases h
  all_goals
    simp [State.visible, State.getFlag, State.read16, State.read, State.pulled, State.pulled16, ← hval, opLda, opLdx,
      opLdy, opSta, opStx, opSty, opTax, opTay, opTxa, opTya, opTsx, opTxs, opPha, opPhp, opPla, opPlp, opAdc, opSbc,
      opCmp, opCpx, opCpy, opInc, opDec, opInx, opIny, opDex, opDey, opAnd, opEor, opOra, opBit, shiftWith, opAsl,
      opLsr, opRol, opRor, opJsr, opRts, opJmp, opClc, opCld, opCli, opClv, opSec, opSed, opSei, opBrk, opRti, opNop]
  -- What remains are the bytes stored to and the jumps to `addr_abs`.
  all_goals by_cases hm : m = .acc <;> simp_all [usesAddress]

theorem branch_visible {s t : State} (c : Bool) (hv : s.visible = t.visible) (hr : s.addrRel = t.addrRel) :
    (branch c s).1.visible = (branch c t).1.visible := by
  obtain ⟨o, f, a, r, rfl⟩ := exists_withScratch hv
  cases hr
  cases c <;> rfl

theorem State.addCycles_visible {s t : State} (k : Byte) (h : s.visible = t.visible) :
    (s.addCycles k).visible = (t.addCycles k).visible := by
  obtain ⟨o, f, a, r, rfl⟩ := exists_withScratch h
  rfl

theorem runOperation_visible {i : Instr} {op : Operation} (h : i.mnemonic.operation = some op) {s t : State}
    (hv : s.visible = t.visible) :
    (runOperation i.operand op s).visible = (runOperation i.operand op t).visible := by
  have hres := i.operand.resolve_visible hv
  have hop : (op i.operand (i.operand.resolve s)).1.visible = (op i.operand (i.operand.resolve t)).1.visible := by
    rcases hb : branchCondition i.mnemonic with _ | ⟨f, b⟩
    · have hm : i.operand.mode ≠ .rel := by simp [mode_eq_rel_iff, hb]
      exact operation_visible h hb hres (Operand.value_resolve_eq hm hv)
        fun hu => Operand.resolve_addrAbs_eq (writesAddress_of_usesAddress hu) hv
    · have hm : i.operand.mode = .rel := by simp [mode_eq_rel_iff, hb]
      have hf : (i.operand.resolve s).getFlag f = (i.operand.resolve t).getFlag f :=
        State.getFlag_of_p_eq _ _ (congrArg Visible.p hres) f
      rw [operation_eq_branch h hb, operation_eq_branch h hb, hf]
      exact branch_visible _ hres (Operand.resolve_addrRel_eq hm s t)
  unfold runOperation
  simp only [operation_report h, Operand.extraCycle_eq i.operand hv]
  exact State.addCycles_visible _ hop

/-! The tick. -/

/-- An outcome as a claim may see it (R34). -/
def seen : Result → Host.Outcome Visible Fault Refusal
  | .next s => .next s.visible
  | .fault f => .fault f
  | .refused r => .refused r

theorem seen_next {s t : State} (h : s.visible = t.visible) : seen (.next s) = seen (.next t) :=
  congrArg Host.Outcome.next h

theorem State.countDown_visible {s t : State} (h : s.visible = t.visible) :
    s.countDown.visible = t.countDown.visible := by
  obtain ⟨o, f, a, r, rfl⟩ := exists_withScratch h
  unfold State.countDown
  rw [State.withScratch_cycles]
  split <;> rfl

theorem seen_endTick {r r' : Result} (h : seen r = seen r') : seen (endTick r) = seen (endTick r') := by
  cases r <;> cases r' <;> simp only [seen, endTick, reduceCtorEq, Host.Outcome.next.injEq, Host.Outcome.fault.injEq,
    Host.Outcome.refused.injEq] at h ⊢
  · exact State.countDown_visible h
  · exact h
  · exact h

theorem seen_onBus {s t : State} {body body' : State → State} (hv : s.visible = t.visible)
    (hbody : (body s).visible = (body' t).visible) : seen (onBus s body) = seen (onBus t body') := by
  have hconn : s.connected = t.connected := congrArg Visible.connected hv
  rcases Bool.eq_false_or_eq_true s.connected with hc | hc
  · rw [onBus_connected hc, onBus_connected (hconn ▸ hc)]
    exact seen_next hbody
  · rw [onBus_unconnected hc, onBus_unconnected (hconn ▸ hc)]
    obtain ⟨o, f, a, r, rfl⟩ := exists_withScratch hv
    rfl

theorem seen_exec (i : Instr) {s t : State} (hv : s.visible = t.visible) : seen (exec i s) = seen (exec i t) := by
  rcases documented_or_not i with ⟨op, hop⟩ | ⟨op, rfl⟩
  · rw [exec_eq_fetchTick i s op hop, exec_eq_fetchTick i t op hop]
    refine seen_onBus hv (runOperation_visible hop ?_)
    obtain ⟨o, f, a, r, rfl⟩ := exists_withScratch hv
    rfl
  · refine seen_onBus hv ?_
    obtain ⟨o, f, a, r, rfl⟩ := exists_withScratch hv
    unfold undocumentedFetch
    rw [State.withScratch_params]
    split <;> rfl

theorem seen_idleTick {s t : State} (hv : s.visible = t.visible) : seen (idleTick s) = seen (idleTick t) := by
  obtain ⟨o, f, a, r, rfl⟩ := exists_withScratch hv
  have hpending : pendingInterrupt (s.withScratch o f a r) = pendingInterrupt s := rfl
  have hfetch : fetchInstr (s.withScratch o f a r) = fetchInstr s := rfl
  unfold idleTick
  rw [hpending, hfetch]
  split
  · exact seen_endTick (seen_onBus hv rfl)
  · exact seen_endTick (seen_exec _ hv)

theorem seen_step {s t : State} (hv : s.visible = t.visible) : seen (step s) = seen (step t) := by
  have hidle := seen_idleTick hv
  have hcount := State.countDown_visible hv
  obtain ⟨o, f, a, r, rfl⟩ := exists_withScratch hv
  unfold step
  rw [State.withScratch_fault, State.withScratch_refused, State.withScratch_cycles]
  split
  · rfl
  · rfl
  · split
    · exact hidle
    · exact seen_next hcount

end Sys2Proof.Machine
end

section
/-! PROOFS. The statements of 10_state.md: what a tick keeps, what it may change, and what it does not depend on. -/

namespace Sys2Proof.Machine

/-- Settles O48: what is seen of a tick's outcome depends on what is seen of its state. -/
theorem scratchFieldsCarryNothing : Obligations.ScratchFieldsCarryNothing := by
  intro s s' hv
  have h := seen_step hv
  rcases hs : step s with t | f | r <;> rcases hs' : step s' with t' | f' | r' <;>
    simp only [hs, hs', seen, reduceCtorEq, Host.Outcome.next.injEq, Host.Outcome.fault.injEq,
      Host.Outcome.refused.injEq] at h
  · exact .inl ⟨t, t', rfl, rfl, h⟩
  · exact .inr (.inl ⟨f, rfl, h ▸ rfl⟩)
  · exact .inr (.inr ⟨r, rfl, h ▸ rfl⟩)

/-- Settles O52, by the cases of a tick. -/
theorem tickKeepsTheInvariant : Obligations.TickKeepsTheInvariant := by
  intro s t hs h
  obtain ⟨hr, ⟨_, rfl⟩ | ⟨_, _, rfl⟩ | ⟨_, _, v, _, rfl⟩ | ⟨_, _, _, u, hu, rfl⟩⟩ := step_cases h
  · exact inv_countDown hs
  · exact inv_markFault hs hr.2 _
  · exact inv_countDown (inv_interruptEntry hs v)
  · exact inv_countDown (inv_exec hs hr hu)

/-- Settles O59: every bit of P is a flag, and `SetFlag` writes its own flag only. -/
theorem flagPrimitivesRoundTrip : Obligations.FlagPrimitivesRoundTrip := by
  intro s f b
  refine ⟨by simp, fun k hk hne => ?_⟩
  obtain ⟨g, rfl⟩ := Flag.exists_pos_eq hk
  have hgf : g ≠ f := fun e => hne (congrArg Flag.pos e)
  have h := State.getFlag_setFlag s f g b
  rwa [if_neg hgf] at h

/-- Settles O10: a step of a running machine is a decrement or an Idle tick, and both answer. -/
theorem ticksAnswerExactlyWhileRunning : Obligations.TicksAnswerExactlyWhileRunning := by
  intro s
  refine ⟨fun ⟨t, h⟩ => (step_cases h).1, fun hr => ?_⟩
  by_cases h0 : s.cycles = 0
  · rw [step_idle hr h0]
    exact idleTick_answers s
  · exact ⟨_, step_executing hr h0⟩

/-- Settles O44, from the frame of every meaning. -/
theorem flagsChangeOnlyByTheirWriters : Obligations.FlagsChangeOnlyByTheirWriters := by
  intro i s t f h hne
  by_contra hw
  exact hne ((exec_registerFrame h).flag f hw)

/-- Settles O45, from the frame of every meaning. -/
theorem registersChangeOnlyByTheirWriters : Obligations.RegistersChangeOnlyByTheirWriters := by
  intro i s t h
  have k := exec_registerFrame h
  refine ⟨fun hne => ?_, fun hne => by_contra fun hw => hne (k.x hw), fun hne => by_contra fun hw => hne (k.y hw),
    fun hne => by_contra fun hw => hne (k.sp hw)⟩
  by_cases hm : i.operand = .acc
  · exact .inr ⟨mnemonic_of_operand_acc hm, hm⟩
  · exact .inl (by_contra fun hw => hne (k.a hm hw))

/-- Settles O47, by the cases of a tick: only the interrupt entry writes any of it, and only the pending NMI. -/
theorem ticksLeaveTheHostsSideAlone : Obligations.TicksLeaveTheHostsSideAlone := by
  intro s t h
  obtain ⟨_, ⟨_, rfl⟩ | ⟨_, _, rfl⟩ | ⟨h0, hc, v, hv, rfl⟩ | ⟨_, _, _, u, hu, rfl⟩⟩ := step_cases h
  · simp
  · simp
  · refine ⟨by simp, by simp, by simp, by simp, fun hne => ?_⟩
    have hnmi : v = nmiVector := by
      by_contra hv'
      simp [hv'] at hne
    subst hnmi
    exact ⟨h0, hc, hv, by simp, rfl⟩
  · obtain ⟨hconn, hparams, hirq, hnmi, hpending⟩ := exec_keeps_connection_and_lines hu
    simp [hconn, hparams, hirq, hnmi, hpending]

/-- Settles O53, by the cases of a tick: an entry writes I only, an instruction leaves B or clears it. -/
theorem tickKeepsBreakClear : Obligations.TickKeepsBreakClear := by
  intro s t hb h
  obtain ⟨_, ⟨_, rfl⟩ | ⟨_, _, rfl⟩ | ⟨_, _, v, _, rfl⟩ | ⟨_, _, _, u, hu, rfl⟩⟩ := step_cases h
  · rwa [State.getFlag_of_p_eq s _ (State.countDown_p s)]
  · exact hb
  · rw [State.getFlag, State.countDown_p, interruptEntry_p, statusFlag_statusWith]
    exact hb
  · rw [State.getFlag_of_p_eq u _ (State.countDown_p u)]
    rcases exec_getFlag_b_u hu with ⟨hb', _⟩ | ⟨hb', _⟩
    · exact hb'.trans hb
    · exact hb'

/-- Settles O54, by the cases of a tick. -/
theorem counterStaysSmall : Obligations.CounterStaysSmall := by
  constructor
  · intro i s t hm hc h
    obtain ⟨op, hop⟩ | ⟨op, rfl⟩ := documented_or_not i
    · rw [exec_connected hc hop] at h
      cases h
      exact runOperation_cycles_bounds hop s
    · exact absurd rfl hm
  · intro s t hp hle h
    obtain ⟨_, ⟨_, rfl⟩ | ⟨_, _, rfl⟩ | ⟨_, _, v, _, rfl⟩ | ⟨h0, _, _, u, hu, rfl⟩⟩ := step_cases h
    · rw [State.countDown_cycles_toNat]
      omega
    · exact hle
    · rw [State.countDown_cycles_toNat, interruptEntry_cycles]
      decide
    · have := exec_cycles_le hp h0 hu
      rw [State.countDown_cycles_toNat]
      omega

end Sys2Proof.Machine
end

section
/-! SUPPORT. Which bytes change: the memory frame of the stack operations, the write-back and every operation (R54,
R60, R91). -/

namespace Sys2Proof.Machine

/-! A byte reads as before when no write goes to its address. -/

theorem State.read_push_other (s : State) (v : Byte) {addr : Addr} (h : addr ≠ stackAddr s.sp) :
    (s.push v).read addr = s.read addr :=
  State.read_write_other s _ _ v h

theorem State.read_push16_other (s : State) (v : Addr) {addr : Addr} (h0 : addr ≠ stackAddr s.sp)
    (h1 : addr ≠ stackAddr (s.sp - 1)) : (s.push16 v).read addr = s.read addr :=
  (State.read_push_other _ _ h1).trans (State.read_push_other _ _ h0)

theorem State.read_enterException_other (s : State) (p : Byte) (vector : Addr) {addr : Addr}
    (h0 : addr ≠ stackAddr s.sp) (h1 : addr ≠ stackAddr (s.sp - 1)) (h2 : addr ≠ stackAddr (s.sp - 2)) :
    (s.enterException p vector).read addr = s.read addr := by
  have hsp : (s.push16 s.pc).sp = s.sp - 2 := by rw [State.push16_sp]; bv_omega
  calc (s.enterException p vector).read addr
    _ = ((s.push16 s.pc).push p).read addr := State.read_of_mem_eq _ _ (State.enterException_mem s p vector) addr
    _ = (s.push16 s.pc).read addr := State.read_push_other _ _ (hsp ▸ h2)
    _ = s.read addr := State.read_push16_other s s.pc h0 h1

theorem Operand.read_writeBack_other (s : State) (m : Operand) (v : Byte) {addr : Addr}
    (h : m ≠ .acc → addr ≠ s.addrAbs) : (m.writeBack s v).read addr = s.read addr := by
  by_cases hm : m = .acc
  · rw [hm]; rfl
  · exact (State.read_of_mem_eq (s.write s.addrAbs v) _ (by simp [hm]) addr).trans
      (State.read_write_other _ _ _ _ (h hm))

/-- The bytes an operation stores to, in the state its resolver leaves: `storesOf` with the target in `addr_abs`. -/
def operationStores (mn : Mnemonic) (m : Operand) (s : State) : List Addr :=
  match mn with
  | .sta | .stx | .sty | .inc | .dec => [s.addrAbs]
  | .asl | .lsr | .rol | .ror => if m = .acc then [] else [s.addrAbs]
  | .pha | .php => [stackAddr s.sp]
  | .jsr => [stackAddr s.sp, stackAddr (s.sp - 1)]
  | .brk => [stackAddr s.sp, stackAddr (s.sp - 1), stackAddr (s.sp - 2)]
  | _ => []

theorem storesOf_eq_operationStores (i : Instr) (s : State) :
    storesOf i s = operationStores i.mnemonic i.operand (i.operand.resolve (i.entry s)) := by
  unfold storesOf operationStores
  cases i.mnemonic <;> simp [joinBytes_stackPage, target_def]

theorem shiftWith_read_other (k : Nat) (result : Byte → Bool → Byte) (m : Operand) (s : State) {addr : Addr}
    (h : addr ∉ if m = .acc then [] else [s.addrAbs]) : (shiftWith k result m s).1.read addr = s.read addr := by
  have hw : m ≠ .acc → addr ≠ s.addrAbs := fun hm => by simpa [hm] using h
  refine (State.read_of_mem_eq _ _ (State.setZN_mem _ _) addr).trans ?_
  exact Operand.read_writeBack_other _ m _ hw

/-- The memory frame of an operation, by mnemonic: the stores, the write-backs, the pushes, and the rest, which leave
memory as it is. -/
theorem operation_read_other {mn : Mnemonic} {op : Operation} (h : mn.operation = some op) (m : Operand) (s : State)
    {addr : Addr} (ha : addr ∉ operationStores mn m s) : (op m s).1.read addr = s.read addr := by
  cases mn with
  | undocumented => cases h
  | sta | stx | sty => cases h; exact State.read_write_other s _ _ _ (List.ne_of_not_mem_cons ha)
  | inc | dec =>
    cases h
    refine (State.read_of_mem_eq _ _ (State.setZN_mem _ _) addr).trans ?_
    exact Operand.read_writeBack_other _ m _ fun _ => List.ne_of_not_mem_cons ha
  | asl | lsr | rol | ror => cases h; exact shiftWith_read_other _ _ m s ha
  | pha | php => cases h; exact State.read_push_other s _ (List.ne_of_not_mem_cons ha)
  | jsr =>
    cases h
    simp only [operationStores, List.mem_cons, List.not_mem_nil, or_false, not_or] at ha
    obtain ⟨h0, h1⟩ := ha
    exact State.read_push16_other s _ h0 h1
  | brk =>
    cases h
    simp only [operationStores, List.mem_cons, List.not_mem_nil, or_false, not_or] at ha
    obtain ⟨h0, h1, h2⟩ := ha
    exact State.read_enterException_other { s with pc := s.pc + 1 } _ _ h0 h1 h2
  | _ =>
    cases h
    refine State.read_of_mem_eq _ _ ?_ addr
    simp [opLda, opLdx, opLdy, opTax, opTay, opTxa, opTya, opTsx, opTxs, opPla, opPlp, opAdc, opSbc, opCmp, opCpx,
      opCpy, opInx, opIny, opDex, opDey, opAnd, opEor, opOra, opBit, opRts, opBcc, opBcs, opBeq, opBmi, opBne, opBpl,
      opBvc, opBvs, opJmp, opClc, opCld, opCli, opClv, opSec, opSed, opSei, opRti, opNop]

theorem undocumentedFetch_mem (op : Byte) (s : State) : (undocumentedFetch op s).mem = s.mem := by
  rcases undocumentedFetch_cases op s with ⟨_, e⟩ | ⟨_, n, e⟩ <;> rw [e]
  exact State.startFetch_mem s op n

end Sys2Proof.Machine
end

section
/-! PROOFS. The statements of 20_memory.md: which bytes an instruction changes, and the checked memory port. -/

namespace Sys2Proof.Machine

/-- Settles O43, by what `exec` can answer: a stop and an undocumented opcode write no memory, an operation writes its
own stores only. -/
theorem onlyStoredBytesChange : Obligations.OnlyStoredBytesChange := by
  intro i s t h addr ha
  rcases exec_cases h with ⟨_, rfl⟩ | ⟨_, op, rfl, rfl⟩ | ⟨_, op, hop, rfl⟩
  · rfl
  · exact State.read_of_mem_eq _ _ (undocumentedFetch_mem op s) addr
  · rw [storesOf_eq_operationStores] at ha
    exact (operation_read_other hop _ _ ha).trans (resolve_read i s addr)

/-- Settles O41: the port is the total read and write behind the connection check. -/
theorem memoryPortNeedsTheConnection : Obligations.MemoryPortNeedsTheConnection := by
  intro s addr v
  refine ⟨fun hc => ?_, fun hc => ?_⟩
  · simp [State.memRead, State.memWrite, hc]
  · refine ⟨if_pos hc, s.write addr v, if_pos hc, rfl, ?_, State.read_write_self s addr v⟩
    exact fun b hb => State.read_write_other s addr b v hb

end Sys2Proof.Machine
end

section
/-! SUPPORT. The dispatch table, the decoder and the encoder on one form: an opcode with the operand bytes of its
format (R70, R71, R93). -/

namespace Sys2Proof

/-! The formats. -/

/-- The bytes of an instruction of a format: the opcode and the operand bytes the format has (R70). -/
def Format.bytes (op b1 b2 : Byte) : Format → List Byte
  | .f1 _ => [op]
  | .f2 _ => [op, b1]
  | .f3 _ => encodeAbs op (joinBytes b2 b1)

theorem encodeAbs_joinBytes (op b1 b2 : Byte) : encodeAbs op (joinBytes b2 b1) = [op, b1, b2] := by
  rw [encodeAbs, loByte_joinBytes, hiByte_joinBytes]

theorem Format.bytes_length (op b1 b2 : Byte) (f : Format) : (f.bytes op b1 b2).length = f.operandBytes + 1 := by
  cases f <;> rfl

theorem Format.bytes_getElem?_zero (op b1 b2 : Byte) (f : Format) : (f.bytes op b1 b2)[0]? = some op := by
  cases f <;> rfl

/-- A byte sequence long enough for a format is the format's bytes and what follows them. -/
theorem Format.bytes_append_drop (op : Byte) (tail : List Byte) (f : Format) (h : f.operandBytes ≤ tail.length) :
    f.bytes op (tail.getD 0 0x00#8) (tail.getD 1 0x00#8) ++ tail.drop f.operandBytes = op :: tail := by
  cases f with
  | f1 i => rfl
  | f2 g =>
    obtain ⟨b, tail, rfl⟩ := List.exists_cons_of_length_pos h
    rfl
  | f3 g =>
    obtain ⟨b, tail, rfl⟩ := List.exists_cons_of_length_pos (Nat.lt_of_succ_lt h)
    obtain ⟨c, tail, rfl⟩ := List.exists_cons_of_length_pos (Nat.lt_of_succ_lt_succ h)
    simp [Format.bytes, Format.operandBytes, encodeAbs_joinBytes]

/-- A format builds the instruction from operand bytes of its own. -/
inductive Format.Builds : Format → Instr → Prop where
  | f1 (i : Instr) : Builds (.f1 i) i
  | f2 (g : Byte → Instr) (b : Byte) : Builds (.f2 g) (g b)
  | f3 (g : Addr → Instr) (a : Addr) : Builds (.f3 g) (g a)

theorem Format.Builds.exists_build {f : Format} {i : Instr} (h : f.Builds i) : ∃ b1 b2, i = f.build b1 b2 := by
  cases h with
  | f1 i => exact ⟨0, 0, rfl⟩
  | f2 g b => exact ⟨b, 0, rfl⟩
  | f3 g a => exact ⟨loByte a, hiByte a, congrArg g (joinBytes_hiByte_loByte a).symm⟩

/-! The dispatch table. -/

/-- The placeholders of the table are the opcodes of R99. -/
theorem opcodeBaseCycles_eq_none_iff : ∀ op : Byte, opcodeBaseCycles op = none ↔ op ∈ undocumentedOpcodes := by
  decide

theorem isUndocumented_iff (op : Byte) : isUndocumented op = true ↔ op ∈ undocumentedOpcodes :=
  List.contains_iff_mem

/-- A placeholder is one byte long (R99, R186). -/
theorem opcodeFormat_of_undocumented {op : Byte} (h : op ∈ undocumentedOpcodes) :
    opcodeFormat op = .f1 (.undocumented op) := by
  have hnone := (opcodeBaseCycles_eq_none_iff op).2 h
  unfold opcodeBaseCycles at hnone
  unfold opcodeFormat
  split at hnone
  · cases hnone
  · rfl

/-- The table row of a well-formed instruction's opcode builds that instruction (R93). -/
theorem opcodeFormat_builds {i : Instr} (h : i.wellFormed = true) : (opcodeFormat i.opcode).Builds i := by
  cases i with
  | undocumented op =>
    change (opcodeFormat op).Builds _
    rw [opcodeFormat_of_undocumented ((isUndocumented_iff op).1 h)]
    exact .f1 _
  | _ =>
    simp only [Instr.opcode, encode, encodeAbs, List.headD_cons]
    constructor

/-- What a table row builds is well formed, whatever its operand bytes: the evaluation leaves them variables. -/
theorem wellFormed_decodeWindow (b1 b2 : Byte) : ∀ op, (decodeWindow op b1 b2).wellFormed = true :=
  of_decide_eq_true rfl

/-- The encoding of what a table row builds, row by row. -/
theorem encode_decodeWindow (op b1 b2 : Byte) :
    encode (decodeWindow op b1 b2) = (opcodeFormat op).bytes op b1 b2 := by
  obtain ⟨n, hn, rfl⟩ : ∃ n < 256, op = BitVec.ofNat 8 n := ⟨op.toNat, op.isLt, by simp⟩
  interval_cases n <;> rfl

/-- A well-formed instruction is what the table row of its opcode builds from some operand bytes, and its encoding is
the bytes of that row. -/
theorem exists_operand_bytes {i : Instr} (h : i.wellFormed = true) :
    ∃ b1 b2, i = decodeWindow i.opcode b1 b2 ∧ encode i = (opcodeFormat i.opcode).bytes i.opcode b1 b2 := by
  obtain ⟨b1, b2, hi⟩ := (opcodeFormat_builds h).exists_build
  exact ⟨b1, b2, hi, (congrArg encode hi).trans (encode_decodeWindow ..)⟩

theorem wellFormed_of_documented {i : Instr} (h : i.mnemonic ≠ .undocumented) : i.wellFormed = true := by
  cases i with
  | undocumented op => exact absurd rfl h
  | _ => rfl

/-! The decoder and the encoder. -/

/-- What the decoder answers, said once: a byte sequence that begins with the bytes of a table row. -/
theorem decode_eq_ok_iff {bytes rest : List Byte} {i : Instr} :
    decode bytes = .ok (i, rest) ↔
      ∃ op b1 b2, i = decodeWindow op b1 b2 ∧ bytes = (opcodeFormat op).bytes op b1 b2 ++ rest := by
  constructor
  · intro h
    cases bytes with
    | nil => cases h
    | cons op tail =>
      rw [decode] at h
      split at h
      · cases h
      · next hlen =>
        cases h
        exact ⟨op, _, _, rfl, (Format.bytes_append_drop op tail _ (Nat.not_lt.1 hlen)).symm⟩
  · rintro ⟨op, b1, b2, rfl, rfl⟩
    cases hf : opcodeFormat op with
    | f1 i => simp [Format.bytes, decode, decodeWindow, hf, Format.operandBytes, Format.build]
    | f2 g => simp [Format.bytes, decode, decodeWindow, hf, Format.operandBytes, Format.build]
    | f3 g => simp [Format.bytes, encodeAbs_joinBytes, decode, decodeWindow, hf, Format.operandBytes, Format.build]

theorem decode_eq_truncated_iff (op : Byte) (rest : List Byte) :
    decode (op :: rest) = .error (.truncated op) ↔ rest.length < (opcodeFormat op).operandBytes := by
  rw [decode]
  split <;> simp_all

/-- The length of an encoding is the operand byte count of the mode plus 1 (R73). -/
theorem encode_length (i : Instr) : (encode i).length = i.operand.bytes.toNat + 1 := by
  cases i <;> rfl

/-- R100. -/
theorem encode_length_eq_opcodeLength {i : Instr} (h : i.wellFormed = true) :
    (encode i).length = opcodeLength i.opcode := by
  obtain ⟨b1, b2, _, henc⟩ := exists_operand_bytes h
  rw [henc, Format.bytes_length, opcodeLength]

end Sys2Proof
end

section
/-! SUPPORT. What a fetch reads (R67, R95), where an instruction leaves PC (R89), and how many ticks it takes (R98). -/

namespace Sys2Proof.Machine

/-! The instruction at PC. -/

theorem State.Holds.read_eq {s : State} {i : Instr} (h : s.Holds i) {k : Nat} {b : Byte}
    (hk : (encode i)[k]? = some b) : s.read (s.pc + BitVec.ofNat 16 k) = b := by
  obtain ⟨hlt, e⟩ := List.getElem?_eq_some_iff.1 hk
  rw [h k hlt, e]

/-- The bytes at PC decide what the next tick fetches (R67, R95). -/
theorem fetchInstr_of_holds {i : Instr} {s : State} (hwf : i.wellFormed = true) (h : s.Holds i) : fetchInstr s = i := by
  obtain ⟨b1, b2, hi, henc⟩ := exists_operand_bytes hwf
  have h0 : s.read (s.pc + 0#16) = i.opcode := h.read_eq (k := 0) (henc ▸ Format.bytes_getElem?_zero ..)
  rw [BitVec.add_zero] at h0
  refine Eq.trans ?_ hi.symm
  rw [fetchInstr, h0, decodeWindow, decodeWindow]
  cases hf : opcodeFormat i.opcode with
  | f1 j => rfl
  | f2 g =>
    have h1 : s.read (s.pc + 1) = b1 := h.read_eq (k := 1) (by rw [henc, hf]; rfl)
    rw [Format.build, Format.build, h1]
  | f3 g =>
    rw [hf, Format.bytes, encodeAbs_joinBytes] at henc
    have h1 : s.read (s.pc + 1) = b1 := h.read_eq (k := 1) (by rw [henc]; rfl)
    have h2 : s.read (s.pc + 2) = b2 := h.read_eq (k := 2) (by rw [henc]; rfl)
    rw [Format.build, Format.build, h1, h2]

/-- The bytes of an immediate form (R70, R71). -/
theorem encode_of_operand_imm {i : Instr} {v : Byte} (h : i.operand = .imm v) : encode i = [i.opcode, v] := by
  cases i <;> cases h <;> rfl

/-! PC (R89). -/

/-- Only a control transfer writes PC after the resolver (R89). -/
theorem operation_pc {mn : Mnemonic} {op : Operation} (h : mn.operation = some op)
    (hmn : mn ∉ [Mnemonic.jsr, .rts, .bcc, .bcs, .beq, .bmi, .bne, .bpl, .bvc, .bvs, .jmp, .brk, .rti, .undocumented])
    (m : Operand) (s : State) : (op m s).1.pc = s.pc := by
  cases mn <;> cases h
  all_goals
    simp [opLda, opLdx, opLdy, opSta, opStx, opSty, opTax, opTay, opTxa, opTya, opTsx, opTxs, opPha, opPhp, opPla,
      opPlp, opAdc, opSbc, opCmp, opCpx, opCpy, opInc, opDec, opInx, opIny, opDex, opDey, opAnd, opEor, opOra, opBit,
      shiftWith, opAsl, opLsr, opRol, opRor, opClc, opCld, opCli, opClv, opSec, opSed, opSei, opNop] at hmn ⊢

/-! The ticks of an instruction (R98). -/

theorem operation_of_documented {i : Instr} (h : i.mnemonic ≠ .undocumented) :
    ∃ op, i.mnemonic.operation = some op := by
  rcases documented_or_not i with hop | ⟨op, rfl⟩
  · exact hop
  · exact absurd rfl h

/-- The instructions of the relative mode are the branches (R88, R163). -/
theorem operand_rel_iff_branch (i : Instr) : (∃ d, i.operand = .rel d) ↔ ∃ c, branchCondition i.mnemonic = some c := by
  cases i with
  | bcc d | bcs d | beq d | bmi d | bne d | bpl d | bvc d | bvs d => exact ⟨fun _ => ⟨_, rfl⟩, fun _ => ⟨d, rfl⟩⟩
  | _ => exact ⟨fun ⟨_, h⟩ => (nomatch h), fun ⟨_, h⟩ => (nomatch h)⟩

theorem totalTicks_of_not_branch {i : Instr} (h : branchCondition i.mnemonic = none) (s : State) :
    totalTicks i s = i.baseCycles.toNat + (i.pageCycle s).toNat := by
  have hrel : ∀ d, i.operand ≠ .rel d := fun d hd => by
    obtain ⟨c, hc⟩ := (operand_rel_iff_branch i).1 ⟨d, hd⟩
    rw [h] at hc
    cases hc
  unfold totalTicks
  split
  · next d hd => exact absurd hd (hrel d)
  · rfl

theorem totalTicks_of_branch {i : Instr} {f : Flag} {b : Bool} {d : Byte}
    (hb : branchCondition i.mnemonic = some (f, b)) (hd : i.operand = .rel d) (s : State) :
    totalTicks i s =
      2 + if s.getFlag f == b then 1 + (pageCross (branchTargetOf s d) (s.pc + 2)).toNat else 0 := by
  simp only [totalTicks, branchTaken, hd, hb, baseCycles_of_branch hb,
    pageCycle_of_not_reports s (reportsExtra_of_branch hb), pageCross_eq]
  generalize (branchTargetOf s d).toNat / 256 = page, (s.pc + 2).toNat / 256 = page'
  by_cases h : page = page' <;> simp [h]

/-- PC after a branch, where its target is counted from (R88, R163). -/
theorem resolve_rel_pc (i : Instr) (s : State) (d : Byte) : ((Operand.rel d).resolve (i.entry s)).pc = s.pc + 2 := by
  rw [Operand.resolve_pc, entry_pc, BitVec.add_assoc]
  rfl

/-- The target of a branch on numbers (R88, R163). -/
theorem branchTarget_resolve_rel (i : Instr) (s : State) (d : Byte) :
    branchTarget ((Operand.rel d).resolve (i.entry s)) = branchTargetOf s d := by
  have hrel : ((Operand.rel d).resolve (i.entry s)).addrRel = BitVec.ofInt 16 d.toInt := rfl
  rw [branchTarget, branchTargetOf, resolve_rel_pc, hrel, BitVec.ofInt_add, BitVec.ofInt_natCast, BitVec.ofNat_toNat,
    BitVec.setWidth_eq]

/-- The counter of a documented instruction's fetch tick is N + k (R95, R96, R98, R163). -/
theorem runOperation_cycles_toNat {i : Instr} {op : Operation} (h : i.mnemonic.operation = some op) (s : State) :
    (runOperation i.operand op (i.entry s)).cycles.toNat = totalTicks i s := by
  rw [runOperation_cycles, operation_report h]
  change (_ + i.pageCycle s).toNat = totalTicks i s
  rcases hb : branchCondition i.mnemonic with _ | ⟨f, b⟩
  · rw [(operation_frame h _ _).cycles hb, Operand.resolve_cycles, entry_cycles, totalTicks_of_not_branch hb]
    have hbase := baseCycles_bounds (mnemonic_ne_undocumented h)
    have hpage : (i.pageCycle s).toNat ≤ 1 := bit_toNat_le_one _
    bv_omega
  · obtain ⟨d, hd⟩ := (operand_rel_iff_branch i).2 ⟨_, hb⟩
    rw [operation_eq_branch h hb, branch_cycles, Operand.resolve_cycles, entry_cycles, baseCycles_of_branch hb,
      pageCycle_of_not_reports s (reportsExtra_of_branch hb), totalTicks_of_branch hb hd, resolve_getFlag, hd,
      branchTarget_resolve_rel, resolve_rel_pc, ← bit_toNat]
    have hbit := bit_toNat_le_one (pageCross (branchTargetOf s d) (s.pc + 2))
    split <;> bv_omega

theorem countDown_with_cycles (s : State) (n : Byte) : { s.countDown with cycles := n } = { s with cycles := n } := by
  rw [State.countDown_eq]

theorem running_countDown {s : State} (h : s.Running) : s.countDown.Running :=
  ⟨(State.countDown_fault s).trans h.1, (State.countDown_refused s).trans h.2⟩

/-- A machine that executes only counts down: `k` ticks before `n` remain change the counter alone (R97). -/
theorem run_executing {s : State} (hr : s.Running) (k n : Nat) (h : s.cycles.toNat = k + n) :
    Sys2Proof.core.run k s = .next { s with cycles := BitVec.ofNat 8 n } := by
  induction k generalizing s with
  | zero =>
    have hn : s.cycles = BitVec.ofNat 8 n := by bv_omega
    rw [← hn]
    rfl
  | succ k ih =>
    have h0 : s.cycles ≠ 0 := by
      intro e
      simp [e] at h
      omega
    have hrest : s.countDown.cycles.toNat = k + n := by
      rw [State.countDown_cycles_toNat]
      omega
    rw [run_next k (step_executing hr h0), ih (running_countDown hr) hrest, countDown_with_cycles]

end Sys2Proof.Machine
end

section
/-! SUPPORT. The addressing modes on numbers: a pointer in a page, and an index added to a base (R82 to R87). -/

namespace Sys2Proof.Machine

/-- A pointer inside a page: its second byte is at the next address of the page (R84, R85, R86). -/
theorem State.readInPage_toNat (s : State) (page lo : Byte) :
    (s.readInPage page lo).toNat =
      (Memory.read s.mem (page.toNat * 256 + (lo.toNat + 1) % 256)).toNat * 256 +
        (Memory.read s.mem (page.toNat * 256 + lo.toNat)).toNat := by
  unfold State.readInPage State.read
  rw [joinBytes_toNat, joinBytes_toNat, joinBytes_toNat, BitVec.toNat_add]
  rfl

/-- A pointer in page 0 (R85, R86). -/
theorem State.readInPage_zero_toNat (s : State) (lo : Byte) :
    (s.readInPage 0x00#8 lo).toNat =
      (Memory.read s.mem ((lo.toNat + 1) % 256)).toNat * 256 + (Memory.read s.mem lo.toNat).toNat := by
  rw [State.readInPage_toNat]
  simp

/-- The page cross of a base and an index is that of R87 on the sum modulo 65536. -/
theorem pageCross_add (base : Addr) (index : Byte) :
    pageCross (base + zext16 index) base =
      (((base.toNat + index.toNat) % 65536) / 256 != base.toNat / 256) := by
  rw [pageCross_eq, BitVec.toNat_add, zext16_toNat]
  exact decide_not

end Sys2Proof.Machine
end

section
/-! PROOFS. The statements of 30_encoding.md: decoding and encoding, the tick, the addressing modes. -/

namespace Sys2Proof.Machine

/-- Settles O1: a well-formed instruction is what its table row builds, and its encoding is that row's bytes. -/
theorem decodeOfEncodeIsTheInstruction : Obligations.DecodeOfEncodeIsTheInstruction := by
  intro i rest h
  obtain ⟨b1, b2, hi, henc⟩ := exists_operand_bytes h
  exact decode_eq_ok_iff.2 ⟨i.opcode, b1, b2, hi, by rw [henc]⟩

/-- Settles O2: what the decoder answers is what a table row builds. -/
theorem encodeOfDecodeIsTheBytes : Obligations.EncodeOfDecodeIsTheBytes := by
  intro bytes rest i h
  obtain ⟨op, b1, b2, rfl, rfl⟩ := decode_eq_ok_iff.1 h
  exact ⟨wellFormed_decodeWindow b1 b2 op, by rw [encode_decodeWindow]⟩

/-- Settles O3, by running the decoder. -/
theorem specWordsDecode : Obligations.SpecWordsDecode := by
  unfold Obligations.SpecWordsDecode
  decide

/-- Settles O4: both lengths are the operand byte count of the table row plus 1. -/
theorem lengthFollowsFromTheOpcode : Obligations.LengthFollowsFromTheOpcode := by
  refine ⟨fun i h => ⟨encode_length_eq_opcodeLength h, encode_length i⟩, fun op rest => ?_⟩
  rw [decode_eq_truncated_iff, opcodeLength, Nat.add_lt_add_iff_right]

/-- Settles O5: a placeholder row has no base count, and only a placeholder builds an undocumented instruction, since
what a row builds is well formed. -/
theorem placeholdersAreTheUndocumentedOpcodes : Obligations.PlaceholdersAreTheUndocumentedOpcodes := by
  refine ⟨by decide, by decide, List.length_flatten.trans rfl, fun op b1 b2 =>
    ⟨⟨fun h => ?_, fun h => ?_⟩, opcodeBaseCycles_eq_none_iff op⟩⟩
  · have hwf := wellFormed_decodeWindow b1 b2 op
    rw [h] at hwf
    exact (isUndocumented_iff op).1 hwf
  · rw [decodeWindow, opcodeFormat_of_undocumented h]
    rfl

/-- Settles O6: the bytes at PC are those the fetch decodes. -/
theorem tickRunsTheDecodedInstruction : Obligations.TickRunsTheDecodedInstruction := by
  intro i s hwf hnext hholds
  rw [step_fetch hnext, fetchInstr_of_holds hwf hholds]

/-- Settles O7: both ticks end in the one decrement. -/
theorem executingTickOnlyCountsDown : Obligations.ExecutingTickOnlyCountsDown := by
  refine ⟨fun s hr h0 => ?_, fun s => ?_⟩
  · rw [step_executing hr h0, State.countDown_of_pos s h0]
  · have hcycles : s.countDown.cycles = BitVec.ofNat 8 (s.cycles.toNat - 1) := by
      rw [← State.countDown_cycles_toNat, BitVec.ofNat_toNat, BitVec.setWidth_eq]
    rw [endTick, State.countDown_eq, hcycles]

/-- Settles O8: the fetch tick leaves N + k in the counter, and the ticks after it only count down. -/
theorem timingLaw : Obligations.TimingLaw := by
  intro i s hmn hnext hholds
  obtain ⟨op, hop⟩ := operation_of_documented hmn
  have hexec := exec_connected hnext.connected hop
  have hcycles := runOperation_cycles_toNat hop s
  have hbounds := runOperation_cycles_bounds hop s
  have hkeeps := runOperation_keepsHostSide hop s
  generalize runOperation i.operand op (i.entry s) = t at *
  have hr : t.Running := ⟨hkeeps.fault.trans hnext.running.1, hkeeps.refused.trans hnext.running.2⟩
  have hfetch : step s = .next t.countDown := by
    rw [step_fetch hnext, fetchInstr_of_holds (wellFormed_of_documented hmn) hholds, hexec]
    rfl
  have hticks (k : Nat) (h1 : 1 ≤ k) (hk : k ≤ totalTicks i s) :
      Sys2Proof.core.run k s = .next { t with cycles := BitVec.ofNat 8 (totalTicks i s - k) } := by
    obtain ⟨k, rfl⟩ := Nat.exists_eq_add_of_le' h1
    have hrest : t.countDown.cycles.toNat = k + (totalTicks i s - (k + 1)) := by
      rw [State.countDown_cycles_toNat]
      omega
    rw [run_next k hfetch, run_executing (running_countDown hr) _ _ hrest, countDown_with_cycles]
  refine ⟨t, hexec, by omega, by omega, hticks, fun hnone => ?_⟩
  rw [run_succ _ (hticks _ (by omega) le_rfl), Nat.sub_self]
  exact step_fetch ⟨hr, rfl, hkeeps.connected.trans hnext.connected, hnone⟩

/-- Settles O11, mode by mode. -/
theorem modesComputeTheirAddress : Obligations.ModesComputeTheirAddress := by
  intro s m n h
  cases m with
  | imp | acc | rel => cases h
  | imm | abs => cases h; rfl
  | zp0 b => cases h; exact zext16_toNat b
  | zpx | zpy | abx | aby =>
    cases h
    simp [Operand.address, Operand.base]
  | ind p =>
    cases h
    simp only [Operand.address, Operand.base]
    rw [State.readInPage_toNat, hiByte_toNat, loByte_toNat, Nat.div_add_mod']
  | izx b =>
    cases h
    simp only [Operand.address, Operand.base]
    rw [State.readInPage_zero_toNat, BitVec.toNat_add]
  | izy b =>
    cases h
    simp only [Operand.address, Operand.base]
    rw [BitVec.toNat_add, State.readInPage_zero_toNat, zext16_toNat]

/-- Settles O12: the three modes that report the cycle add an index to a 16-bit base. -/
theorem modesReportThePageCross : Obligations.ModesReportThePageCross := by
  intro s m
  cases m with
  | abx a => exact pageCross_add a s.x
  | aby a => exact pageCross_add a s.y
  | izy b =>
    refine (pageCross_add (s.readInPage 0x00#8 b) s.y).trans ?_
    rw [State.readInPage_zero_toNat]
    rfl
  | _ => rfl

/-- Settles O13: the operand byte is the second byte of the instruction, at the address after the opcode. -/
theorem immediateOperandIsTheByteInMemory : Obligations.ImmediateOperandIsTheByteInMemory := by
  intro i v s hm h
  have haddr : i.target s = s.pc + 1 := by rw [Instr.target, hm]; rfl
  have hsource : i.source s = v := by rw [Instr.source, hm]
  rw [haddr, hsource]
  exact h.read_eq (k := 1) (by rw [encode_of_operand_imm hm]; rfl)

/-- Settles O46: the resolver leaves PC past the instruction, and the operation does not write it. -/
theorem pcAdvancesByTheLength : Obligations.PcAdvancesByTheLength := by
  intro i s t hc h hmn
  rcases exec_cases h with ⟨hc', _⟩ | ⟨_, op, rfl, _⟩ | ⟨_, op, hop, rfl⟩
  · simp [hc] at hc'
  · simp [Instr.mnemonic] at hmn
  · rw [runOperation_pc, operation_pc hop hmn, Operand.resolve_pc, entry_pc, encode_length]
    bv_omega

end Sys2Proof.Machine
end

section
/-! SUPPORT. How the encodings a rule lists are read off the dispatch table (R72, R110). -/

namespace Sys2Proof

/-- The row of an instruction in a rule's list of encodings, beside its mnemonic: opcode, mode, bytes, base cycles. -/
def Instr.encodingRow (i : Instr) : Mnemonic × Byte × Machine.Mode × Nat × Nat :=
  (i.mnemonic, i.opcode, i.operand.mode, i.length.toNat, i.baseCycles.toNat)

/-- The row of what the dispatch table builds does not depend on the operand bytes. -/
theorem encodingRow_decodeWindow (op b1 b2 : Byte) :
    (decodeWindow op b1 b2).encodingRow = (decodeWindow op 0 0).encodingRow := by
  obtain ⟨n, hn, rfl⟩ : ∃ n < 256, op = BitVec.ofNat 8 n := ⟨op.toNat, op.isLt, by simp⟩
  interval_cases n <;> rfl

/-- The encodings of a documented mnemonic are those of the table rows that build it, with operand bytes 0. -/
theorem encodedBy_of_table {m : Mnemonic} {rows : List (Byte × Machine.Mode × Nat × Nat)}
    (h : m ≠ .undocumented ∧
      (∀ op, (decodeWindow op 0 0).mnemonic = m → (decodeWindow op 0 0).encodingRow.2 ∈ rows) ∧
      ∀ r ∈ rows, (decodeWindow r.1 0 0).mnemonic = m) : EncodedBy m rows := by
  obtain ⟨hm, hlisted, hbuilt⟩ := h
  have hmnemonic (op b1 b2 : Byte) : (decodeWindow op b1 b2).mnemonic = (decodeWindow op 0 0).mnemonic :=
    congrArg Prod.fst (encodingRow_decodeWindow op b1 b2)
  refine ⟨fun i hi => ?_, fun r hr b1 b2 => (hmnemonic r.1 b1 b2).trans (hbuilt r hr)⟩
  obtain ⟨b1, b2, hdec, -⟩ := exists_operand_bytes (wellFormed_of_documented (hi ▸ hm))
  change i.encodingRow.2 ∈ rows
  rw [hdec, hmnemonic] at hi
  rw [hdec, encodingRow_decodeWindow]
  exact hlisted _ hi

end Sys2Proof
end

section
/-! SUPPORT. How a claim `RunsTo` is met from the visible state an operation leaves: what the operation starts from, the
page-cross cycle charged after it (R96), the flags. -/

namespace Sys2Proof.Machine

/-- What an operation starts from: PC past the instruction and the base count in the counter (R89, R95). -/
theorem resolve_entry_visible (i : Instr) (s : State) :
    (i.operand.resolve (i.entry s)).visible = { i.done s with cycles := i.baseCycles } := by
  simp [State.visible, Instr.done, entry_pc_add_bytes]

section
variable {i : Instr} {s : State} {op : Operation} {v : Visible}

/-- The visible state a run operation leaves is that of its operation, with the page-cross cycle in the counter. -/
theorem runOperation_visible_of_operation {p : Byte} (hop : i.mnemonic.operation = some op)
    (hcycles : v.cycles = i.baseCycles + i.pageCycle s)
    (hv : (op i.operand (i.operand.resolve (i.entry s))).1.visible = { v with p := p, cycles := i.baseCycles }) :
    (runOperation i.operand op (i.entry s)).visible = { v with p := p } := by
  have hbase : (op i.operand (i.operand.resolve (i.entry s))).1.cycles = i.baseCycles := congrArg Visible.cycles hv
  calc (runOperation i.operand op (i.entry s)).visible
    _ = { (op i.operand (i.operand.resolve (i.entry s))).1.visible with
          cycles := (runOperation i.operand op (i.entry s)).cycles } := rfl
    _ = { v with p := p } := by
      rw [hv, hcycles, runOperation_cycles, operation_report hop, hbase]
      rfl

/-- A claim about an instruction from the visible state and the flags its operation leaves. -/
theorem runsTo_of_operation {p : Byte} {flags : List (Flag × Bool)} (hc : s.connected = true)
    (hop : i.mnemonic.operation = some op) (hcycles : v.cycles = i.baseCycles + i.pageCycle s)
    (hv : (op i.operand (i.operand.resolve (i.entry s))).1.visible = { v with p := p, cycles := i.baseCycles })
    (hf : ∀ f, statusFlag p f = (flags.lookup f).getD (s.getFlag f)) : RunsTo i s v flags := by
  have hrun := runOperation_visible_of_operation hop hcycles hv
  have hp : (runOperation i.operand op (i.entry s)).p = p := congrArg Visible.p hrun
  exact runsTo_intro hc hop (hp ▸ hrun) (flags_of_status hp hf)

/-- An operation that ends in `SetZN(r)` gives Z and N from `r` (R10). -/
theorem runsTo_setZN {t : State} {r w : Byte} (hc : s.connected = true) (hop : i.mnemonic.operation = some op)
    (hcycles : v.cycles = i.baseCycles + i.pageCycle s)
    (ht : (op i.operand (i.operand.resolve (i.entry s))).1 = t.setZN r) (hr : r = w)
    (hv : t.visible = { v with p := s.p, cycles := i.baseCycles }) : RunsTo i s v (zn w) := by
  subst hr
  have hstatus : (t.setZN r).visible =
      { t.visible with p := statusWith (statusWith t.visible.p .z (r == 0x00#8)) .n (r.getLsbD 7) } := rfl
  exact runsTo_of_operation hc hop hcycles (by rw [ht, hstatus, hv]) (statusFlag_zn s r)

/-- An operation that leaves P as it is gives no flag a new value. -/
theorem runsTo_noFlags (hc : s.connected = true) (hop : i.mnemonic.operation = some op)
    (hcycles : v.cycles = i.baseCycles + i.pageCycle s)
    (hv : (op i.operand (i.operand.resolve (i.entry s))).1.visible = { v with p := s.p, cycles := i.baseCycles }) :
    RunsTo i s v [] :=
  runsTo_of_operation hc hop hcycles hv fun _ => rfl

end

end Sys2Proof.Machine
end

section
/-! PROOFS. The statements of 41_load_store_transfer.md: loads, stores and register transfers. -/

namespace Sys2Proof.Machine

/-- Settles O14: a load writes the operand byte of the resolved mode to its register and ends in `SetZN` of it. -/
theorem loadsCopyTheirOperand : Obligations.LoadsCopyTheirOperand := by
  refine ⟨encodedBy_of_table (by decide), encodedBy_of_table (by decide), encodedBy_of_table (by decide),
    fun i s hc => ?_⟩
  have hbyte := value_resolve i s
  have hload (load : Visible → Byte → Visible) := congrArg₂ load (resolve_entry_visible i s) hbyte
  refine ⟨fun hm => ?_, fun hm => ?_, fun hm => ?_⟩
  · exact runsTo_setZN hc (operation_of_mnemonic hm rfl) rfl rfl hbyte (hload fun u v => { u with a := v })
  · exact runsTo_setZN hc (operation_of_mnemonic hm rfl) rfl rfl hbyte (hload fun u v => { u with x := v })
  · exact runsTo_setZN hc (operation_of_mnemonic hm rfl) rfl rfl hbyte (hload fun u v => { u with y := v })

/-- Settles O15: a store writes its register at the address its mode left in `addr_abs`, which is the target. -/
theorem storesWriteOneByte : Obligations.StoresWriteOneByte := by
  refine ⟨encodedBy_of_table (by decide), encodedBy_of_table (by decide), encodedBy_of_table (by decide),
    fun i s hc => ?_⟩
  have haddr : (i.operand.resolve (i.entry s)).addrAbs = i.target s := Operand.resolve_addrAbs _ _
  have hstore (register : Visible → Byte) := congrArg₂
    (fun u addr => { u with mem := Memory.write u.mem (BitVec.toNat addr) (register u) })
    (resolve_entry_visible i s) haddr
  refine ⟨fun hm => ?_, fun hm => ?_, fun hm => ?_⟩
  · exact runsTo_noFlags hc (operation_of_mnemonic hm rfl) rfl (hstore Visible.a)
  · exact runsTo_noFlags hc (operation_of_mnemonic hm rfl) rfl (hstore Visible.x)
  · exact runsTo_noFlags hc (operation_of_mnemonic hm rfl) rfl (hstore Visible.y)

/-- Settles O16: a transfer copies one register of the state it starts from; all but TXS end in `SetZN` of it. -/
theorem transfersCopyOneRegister : Obligations.TransfersCopyOneRegister := by
  refine ⟨encodedBy_of_table (by decide), encodedBy_of_table (by decide), encodedBy_of_table (by decide),
    encodedBy_of_table (by decide), encodedBy_of_table (by decide), encodedBy_of_table (by decide), fun s hc => ?_⟩
  have hcopy (i : Instr) (copy : Visible → Visible) := congrArg copy (resolve_entry_visible i s)
  exact ⟨
    runsTo_setZN hc rfl rfl rfl rfl (hcopy .tax fun u => { u with x := u.a }),
    runsTo_setZN hc rfl rfl rfl rfl (hcopy .tay fun u => { u with y := u.a }),
    runsTo_setZN hc rfl rfl rfl rfl (hcopy .txa fun u => { u with a := u.x }),
    runsTo_setZN hc rfl rfl rfl rfl (hcopy .tya fun u => { u with a := u.y }),
    runsTo_setZN hc rfl rfl rfl rfl (hcopy .tsx fun u => { u with x := u.sp }),
    runsTo_noFlags hc rfl rfl (hcopy .txs fun u => { u with sp := u.x })⟩

end Sys2Proof.Machine
end

section
/-! SUPPORT. What a push leaves (R60), and the flags of a status byte loaded from the stack (R29). -/

namespace Sys2Proof.Machine

/-- An operation that is one push of a byte changes memory at 0x0100 + SP, and SP (R60). -/
theorem runsTo_push {i : Instr} {s : State} {op : Operation} {v : Byte} (hc : s.connected = true)
    (hop : i.mnemonic.operation = some op)
    (hpush : (op i.operand (i.operand.resolve (i.entry s))).1 = (i.operand.resolve (i.entry s)).push v) :
    RunsTo i s { i.done s with mem := (s.write (joinBytes 0x01#8 s.sp) v).mem, sp := s.sp - 1 } [] := by
  have hvisible := congrArg
    (fun u => { u with mem := Memory.write u.mem (stackAddr u.sp).toNat v, sp := u.sp - 1 })
    (resolve_entry_visible i s)
  rw [joinBytes_stackPage]
  exact runsTo_noFlags hc hop rfl ((congrArg State.visible hpush).trans hvisible)

/-- The flags of a status byte loaded from a pulled byte, in the form a claim `RunsTo` lists them: all eight, so the
flags before do not matter (R129, R184). -/
theorem statusFlag_pulledStatus_lookup (v : Byte) (before : Flag → Bool) (f : Flag) :
    statusFlag (pulledStatus v) f =
      (([(.c, v.getLsbD 0), (.z, v.getLsbD 1), (.i, v.getLsbD 2), (.d, v.getLsbD 3), (.b, false), (.u, true),
        (.v, v.getLsbD 6), (.n, v.getLsbD 7)] : List (Flag × Bool)).lookup f).getD (before f) := by
  rw [statusFlag_pulledStatus]
  cases f <;> rfl

end Sys2Proof.Machine
end

section
/-! PROOFS. The statements of 42_stack.md: pushes and pulls. -/

namespace Sys2Proof.Machine

/-- Settles O17: both operations are one push, PHA's of A and PHP's of the copy of P with B and U set. -/
theorem pushesStoreAtSp : Obligations.PushesStoreAtSp := by
  refine ⟨encodedBy_of_table (by decide), encodedBy_of_table (by decide), fun s hc => ⟨?_, ?_⟩⟩
  · exact runsTo_push hc (op := opPha) rfl rfl
  · exact runsTo_push hc (op := opPhp) (v := pushedBySoftware s.p) rfl rfl

/-- Settles O18: both operations read the byte above SP and pop it; PLA ends in `SetZN` of it, PLP loads P from it. -/
theorem pullsReadAboveSp : Obligations.PullsReadAboveSp := by
  refine ⟨encodedBy_of_table (by decide), encodedBy_of_table (by decide), fun s hc => ?_⟩
  rw [joinBytes_stackPage]
  have hpop (i : Instr) (load : Visible → Visible) :=
    congrArg (fun u => load { u with sp := u.sp + 1 }) (resolve_entry_visible i s)
  refine ⟨?_, ?_⟩
  · exact runsTo_setZN hc (op := opPla) rfl rfl rfl rfl (hpop .pla fun u => { u with a := s.pulled })
  · exact runsTo_of_operation hc (op := opPlp) rfl rfl (hpop .plp fun u => { u with p := pulledStatus s.pulled })
      (statusFlag_pulledStatus_lookup s.pulled s.getFlag)

end Sys2Proof.Machine
end

section
/-! SUPPORT. What the adder, the compare and the step of a byte leave (R132 to R143): the visible state, the flags, and
the adder's carry and overflow on integers. -/

namespace Sys2Proof.Machine

/-! A byte stepped by one is the step of its number, modulo 256 (R138 to R143). -/

theorem ofNat_toNat_add_one (v : Byte) : BitVec.ofNat 8 (v.toNat + 1) = v + 1 :=
  BitVec.eq_of_toNat_eq (by simp)

theorem ofInt_toNat_sub_one (v : Byte) : BitVec.ofInt 8 (v.toNat - 1) = v - 1 := by
  bv_omega

/-! The adder (R132, R133). -/

/-- The adder leaves A, P and nothing else. -/
theorem State.addToA_visible (s : State) (n : Byte) :
    (s.addToA n).visible = { s.visible with a := adcResult s.a n (s.getFlag .c), p := (s.addToA n).p } := rfl

theorem adcResult_eq_ofNat_mod (a n : Byte) (c : Bool) :
    adcResult a n c = BitVec.ofNat 8 ((a.toNat + n.toNat + c.toNat) % 256) :=
  BitVec.eq_of_toNat_eq (by simp [adcResult_toNat])

/-- The flags of the adder, in the form a claim `RunsTo` lists them. -/
def adderFlags (a n : Byte) (c : Bool) : List (Flag × Bool) :=
  [(.c, adcCarry a n c), (.v, adcOverflow a n c)] ++ zn (adcResult a n c)

theorem State.getFlag_addToA_lookup (s : State) (n : Byte) (f : Flag) :
    (s.addToA n).getFlag f = ((adderFlags s.a n (s.getFlag .c)).lookup f).getD (s.getFlag f) := by
  rw [State.getFlag_addToA]
  cases f <;> rfl

/-- An operation that adds `n` to A, once its operand is read. -/
theorem runsTo_addToA {i : Instr} {s : State} {op : Operation} {n : Byte} (hc : s.connected = true)
    (hop : i.mnemonic.operation = some op)
    (hadd : (op i.operand (i.operand.resolve (i.entry s))).1 =
      (i.operand.fetch (i.operand.resolve (i.entry s))).addToA n) :
    RunsTo i s { i.done s with a := adcResult s.a n (s.getFlag .c) } (adderFlags s.a n (s.getFlag .c)) := by
  let u := i.operand.fetch (i.operand.resolve (i.entry s))
  have ha : u.a = s.a := congrArg Visible.a (resolve_entry_visible i s)
  have hflag : u.getFlag = s.getFlag := funext (fetch_getFlag i s)
  have hflags := State.getFlag_addToA_lookup u n
  have hvisible := (congrArg State.visible hadd).trans (State.addToA_visible u n)
  rw [ha, hflag] at hflags hvisible
  refine runsTo_of_operation hc hop rfl (hvisible.trans ?_) hflags
  exact congrArg (fun v => { v with a := adcResult s.a n (s.getFlag .c), p := (u.addToA n).p })
    (resolve_entry_visible i s)

/-- ADC adds its operand byte, SBC the complement of it (R132, R133). -/
theorem runsTo_adcSbc {i : Instr} {s : State} {n : Byte} (hc : s.connected = true)
    (h : i.mnemonic = .adc ∧ n = i.source s ∨ i.mnemonic = .sbc ∧ n = i.source s ^^^ 0xFF#8) :
    RunsTo i s { i.done s with a := adcResult s.a n (s.getFlag .c) } (adderFlags s.a n (s.getFlag .c)) := by
  rcases h with ⟨hm, rfl⟩ | ⟨hm, rfl⟩ <;> rw [← value_resolve i s]
  · exact runsTo_addToA hc (operation_of_mnemonic hm rfl) rfl
  · exact runsTo_addToA hc (operation_of_mnemonic hm rfl) rfl

/-- What ADC or SBC leaves in A, C and V when it completes. -/
theorem exec_adcSbc {i : Instr} {s t : State} {n : Byte} (hc : s.connected = true) (hx : exec i s = .next t)
    (h : i.mnemonic = .adc ∧ n = i.source s ∨ i.mnemonic = .sbc ∧ n = i.source s ^^^ 0xFF#8) :
    t.a = adcResult s.a n (s.getFlag .c) ∧ t.getFlag .c = adcCarry s.a n (s.getFlag .c) ∧
      t.getFlag .v = adcOverflow s.a n (s.getFlag .c) := by
  obtain ⟨u, hu, hv, hf⟩ := runsTo_adcSbc hc h
  obtain rfl : t = u := Host.Outcome.next.inj (hx.symm.trans hu)
  exact ⟨congrArg Visible.a hv, hf .c, hf .v⟩

/-! The adder on integers. -/

theorem adcCarry_iff (a n : Byte) (c : Bool) : adcCarry a n c = true ↔ (a.toNat : Int) + n.toNat + c.toNat > 255 := by
  rw [adcCarry, decide_eq_true_iff, adcSum]
  omega

/-- V says that the sum of the two's complement values does not fit in a byte (R132). -/
theorem adcOverflow_iff (a n : Byte) (c : Bool) :
    adcOverflow a n c = true ↔ ¬ (-128 ≤ a.toInt + n.toInt + c.toNat ∧ a.toInt + n.toInt + c.toNat ≤ 127) := by
  have hc := c.toNat_lt
  simp only [adcOverflow_msb, BitVec.msb_eq_decide, BitVec.toInt_eq_toNat_cond, adcResult_toNat, Bool.and_eq_true,
    beq_iff_eq, bne_iff_ne, decide_eq_decide, ne_eq]
  omega

/-- The complement that SBC adds, as an unsigned number. -/
theorem xor_ff_toNat (m : Byte) : ((m ^^^ 0xFF#8).toNat : Int) = 255 - m.toNat := by
  revert m
  decide

/-- The complement that SBC adds, as a signed number. -/
theorem xor_ff_toInt (m : Byte) : (m ^^^ 0xFF#8).toInt = -1 - m.toInt := by
  revert m
  decide

/-! The compare (R134). -/

/-- The flags of the compare, in the form a claim `RunsTo` lists them. -/
theorem State.getFlag_compare_lookup (s : State) (r m : Byte) (f : Flag) :
    (s.compare r m).getFlag f =
      (([(.c, decide (r.toNat ≥ m.toNat)), (.z, decide (r.toNat = m.toNat)), (.n, (r - m).getLsbD 7)] :
        List (Flag × Bool)).lookup f).getD (s.getFlag f) := by
  have hz : (r == m) = decide (r.toNat = m.toNat) := by rw [beq_eq_decide, decide_eq_decide, BitVec.toNat_inj]
  rw [State.getFlag_compare, hz]
  cases f <;> rfl

/-- An operation that compares `r` with its operand byte, once that is read. -/
theorem runsTo_compare {i : Instr} {s : State} {op : Operation} {r : Byte} (hc : s.connected = true)
    (hop : i.mnemonic.operation = some op)
    (hcmp : (op i.operand (i.operand.resolve (i.entry s))).1 =
      (i.operand.fetch (i.operand.resolve (i.entry s))).compare r (i.source s)) :
    RunsTo i s (i.done s)
      [(.c, decide (r.toNat ≥ (i.source s).toNat)), (.z, decide (r.toNat = (i.source s).toNat)),
       (.n, (r - i.source s).getLsbD 7)] := by
  let u := i.operand.fetch (i.operand.resolve (i.entry s))
  have hflag : u.getFlag = s.getFlag := funext (fetch_getFlag i s)
  have hflags := State.getFlag_compare_lookup u r (i.source s)
  rw [hflag] at hflags
  refine runsTo_of_operation hc hop rfl ((congrArg State.visible hcmp).trans ?_) hflags
  exact congrArg (fun v => { v with p := (u.compare r (i.source s)).p }) (resolve_entry_visible i s)

/-! Read-modify-write in memory (R138, R139). -/

/-- INC and DEC have no accumulator form, so their write-back goes to memory. -/
theorem operand_ne_acc_of_incDec {i : Instr} (h : i.mnemonic = .inc ∨ i.mnemonic = .dec) : i.operand ≠ .acc := by
  intro hacc
  have := mnemonic_of_operand_acc hacc
  rcases h with h | h <;> simp [h] at this

theorem Operand.writeBack_eq_write {m : Operand} (hm : m ≠ .acc) (s : State) (v : Byte) :
    m.writeBack s v = s.write s.addrAbs v := by
  cases m with
  | acc => exact absurd rfl hm
  | _ => rfl

/-- An operation that ends in the write-back of `v` to memory and `SetZN(v)`. -/
theorem runsTo_rewrite {i : Instr} {s : State} {op : Operation} {v : Byte} (hc : s.connected = true)
    (hop : i.mnemonic.operation = some op) (hm : i.operand ≠ .acc)
    (hw : (op i.operand (i.operand.resolve (i.entry s))).1 =
      (i.operand.writeBack (i.operand.fetch (i.operand.resolve (i.entry s))) v).setZN v) :
    RunsTo i s { i.done s with mem := (s.write (i.target s) v).mem } (zn v) := by
  have haddr : (i.operand.resolve (i.entry s)).addrAbs = i.target s := Operand.resolve_addrAbs _ _
  refine runsTo_setZN hc hop rfl hw rfl ?_
  rw [Operand.writeBack_eq_write hm]
  exact congrArg₂ (fun u addr => { u with mem := Memory.write u.mem (BitVec.toNat addr) v })
    (resolve_entry_visible i s) haddr

end Sys2Proof.Machine
end

section
/-! SUPPORT. D has no effect on a result (R131): two states that differ in D alone stay so, but for an instruction that
pushes P. An operation reads P through `GetFlag` of another flag, and writes it flag by flag or whole. -/

namespace Sys2Proof.Machine

/-- The two states agree on all that a claim may see, D apart. -/
structure AgreeButD (s t : State) : Prop where
  rest : t.visible = { s.visible with p := t.p }
  flag : ∀ f, f ≠ .d → t.getFlag f = s.getFlag f

theorem agreeButD_setFlag (s : State) (d : Bool) : AgreeButD s (s.setFlag .d d) :=
  ⟨rfl, fun f hf => by rw [State.getFlag_setFlag, if_neg hf]⟩

theorem AgreeButD.addCycles {s t : State} (h : AgreeButD s t) (k : Byte) : AgreeButD (s.addCycles k) (t.addCycles k) :=
  ⟨congrArg (fun v => { v with cycles := v.cycles + k }) h.rest, h.flag⟩

section
variable (m : Operand) (s : State) (f : Flag) (b : Bool)

@[simp] theorem Operand.value_setFlag : m.value (s.setFlag f b) = m.value s := by cases m <;> rfl

theorem Operand.resolve_setFlag : m.resolve (s.setFlag f b) = (m.resolve s).setFlag f b := by cases m <;> rfl

theorem Operand.extraCycle_setFlag : m.extraCycle (s.setFlag f b) = m.extraCycle s := by cases m <;> rfl

theorem undocumentedFetch_setFlag (op : Byte) :
    undocumentedFetch op (s.setFlag f b) = (undocumentedFetch op s).setFlag f b := by
  unfold undocumentedFetch
  rw [State.setFlag_params]
  split <;> rfl

theorem branch_setFlag (c : Bool) : (branch c (s.setFlag f b)).1 = (branch c s).1.setFlag f b := by cases c <;> rfl

end

theorem branchCondition_ne_d {mn : Mnemonic} {f : Flag} {b : Bool} (h : branchCondition mn = some (f, b)) : f ≠ .d := by
  rintro rfl
  cases mn <;> cases h

/-- The branches read one flag, which is not D; PLP and RTI load P whole, from memory; what else reads P is C in the
adder and the rotates. -/
theorem operation_agreeButD {mn : Mnemonic} {op : Operation} (h : mn.operation = some op)
    (hmn : mn ∉ [Mnemonic.php, .brk]) (m : Operand) (s : State) (d : Bool) :
    AgreeButD (op m s).1 (op m (s.setFlag .d d)).1 := by
  rcases hb : branchCondition mn with _ | ⟨f, b⟩
  · cases mn with
    | undocumented => cases h
    | php | brk => simp at hmn
    | bcc | bcs | beq | bmi | bne | bpl | bvc | bvs => cases hb
    | _ =>
      cases h
      constructor <;>
        simp +contextual [State.visible, State.getFlag, State.read, State.pulled, State.pulled16, opLda, opLdx, opLdy,
          opSta, opStx, opSty, opTax, opTay, opTxa, opTya, opTsx, opTxs, opPha, opPla, opPlp, opAdc, opSbc, opCmp,
          opCpx, opCpy, opInc, opDec, opInx, opIny, opDex, opDey, opAnd, opEor, opOra, opBit, shiftWith, opAsl, opLsr,
          opRol, opRor, opJsr, opRts, opJmp, opClc, opCld, opCli, opClv, opSec, opSed, opSei, opRti, opNop]
  · rw [operation_eq_branch h hb, operation_eq_branch h hb, State.getFlag_setFlag, if_neg (branchCondition_ne_d hb),
      branch_setFlag]
    exact agreeButD_setFlag _ d

theorem runOperation_agreeButD {i : Instr} {op : Operation} (h : i.mnemonic.operation = some op)
    (hmn : i.mnemonic ∉ [Mnemonic.php, .brk]) (s : State) (d : Bool) :
    AgreeButD (runOperation i.operand op s) (runOperation i.operand op (s.setFlag .d d)) := by
  unfold runOperation
  simp only [operation_report h, Operand.extraCycle_setFlag, Operand.resolve_setFlag]
  exact (operation_agreeButD h hmn _ _ d).addCycles _

theorem exec_agreeButD {i : Instr} (hmn : i.mnemonic ∉ [Mnemonic.php, .brk]) (s : State) (d : Bool) :
    ∃ t t', exec i s = .next t ∧ exec i (s.setFlag .d d) = .next t' ∧ AgreeButD t t' := by
  rcases Bool.eq_false_or_eq_true s.connected with hc | hc
  · rcases documented_or_not i with ⟨op, hop⟩ | ⟨op, rfl⟩
    · exact ⟨_, _, exec_connected hc hop, exec_connected hc hop, runOperation_agreeButD hop hmn (i.entry s) d⟩
    · refine ⟨_, _, exec_undocumented op hc, exec_undocumented op hc, ?_⟩
      rw [undocumentedFetch_setFlag]
      exact agreeButD_setFlag _ d
  · exact ⟨_, _, exec_unconnected i hc, exec_unconnected i hc, agreeButD_setFlag _ d⟩

end Sys2Proof.Machine
end

section
/-! PROOFS. The statements of 43_arithmetic.md: addition and subtraction, compares, increments and
decrements, and that D plays no part. -/

namespace Sys2Proof.Machine

/-- Settles O19: the adder's carry and result are those of the exact sum, and its overflow is read off the sign bits. -/
theorem adcAndSbcAddExactly : Obligations.AdcAndSbcAddExactly := by
  refine ⟨encodedBy_of_table (by decide), encodedBy_of_table (by decide), fun i s hc n hn => ?_⟩
  have hrun := runsTo_adcSbc hc hn
  rw [adderFlags, adcOverflow_msb, adcResult_eq_ofNat_mod] at hrun
  exact hrun

/-- Settles O20: the input of SBC's adder is `255 - m` as an unsigned and `-1 - m` as a signed number. -/
theorem carryAndOverflowOnIntegers : Obligations.CarryAndOverflowOnIntegers := by
  intro i s t hc hx
  dsimp only
  refine ⟨fun hm => ?_, fun hm => ?_⟩
  · obtain ⟨ha, hcarry, hover⟩ := exec_adcSbc hc hx (.inl ⟨hm, rfl⟩)
    rw [ha, hcarry, hover, adcCarry_iff, adcOverflow_iff, adcResult_toNat]
    exact ⟨by push_cast; rfl, Iff.rfl, Iff.rfl⟩
  · obtain ⟨ha, hcarry, hover⟩ := exec_adcSbc hc hx (.inr ⟨hm, rfl⟩)
    have hnat := xor_ff_toNat (i.source s)
    rw [ha, hcarry, hover, adcCarry_iff, adcOverflow_iff, adcResult_toNat, xor_ff_toInt]
    refine ⟨?_, ?_, ?_⟩ <;> omega

/-- Settles O21: each compare is `Compare(R, m)` of its register and the operand byte. -/
theorem comparesSetCarryZeroNegative : Obligations.ComparesSetCarryZeroNegative := by
  refine ⟨encodedBy_of_table (by decide), encodedBy_of_table (by decide), encodedBy_of_table (by decide),
    fun i s hc r hr => ?_⟩
  rcases hr with ⟨hm, rfl⟩ | ⟨hm, rfl⟩ | ⟨hm, rfl⟩
  · exact runsTo_compare hc (operation_of_mnemonic hm rfl) (by simp [opCmp, value_resolve])
  · exact runsTo_compare hc (operation_of_mnemonic hm rfl) (by simp [opCpx, value_resolve])
  · exact runsTo_compare hc (operation_of_mnemonic hm rfl) (by simp [opCpy, value_resolve])

/-- Settles O22: the byte goes back, stepped, to the address it came from. -/
theorem incAndDecRewriteMemory : Obligations.IncAndDecRewriteMemory := by
  refine ⟨encodedBy_of_table (by decide), encodedBy_of_table (by decide), fun i s hc v hv => ?_⟩
  rcases hv with ⟨hm, rfl⟩ | ⟨hm, rfl⟩ <;> rw [← value_resolve i s]
  · rw [ofNat_toNat_add_one]
    exact runsTo_rewrite hc (operation_of_mnemonic hm rfl) (operand_ne_acc_of_incDec (.inl hm)) rfl
  · rw [ofInt_toNat_sub_one]
    exact runsTo_rewrite hc (operation_of_mnemonic hm rfl) (operand_ne_acc_of_incDec (.inr hm)) rfl

/-- Settles O49: `exec` keeps the agreement of the two states on all but D. -/
theorem decimalFlagHasNoEffect : Obligations.DecimalFlagHasNoEffect := by
  intro i s t t' d hmn ht ht'
  obtain ⟨u, u', hu, hu', hagree⟩ := exec_agreeButD hmn s d
  obtain rfl : t = u := Host.Outcome.next.inj (ht.symm.trans hu)
  obtain rfl : t' = u' := Host.Outcome.next.inj (ht'.symm.trans hu')
  exact ⟨hagree.rest, hagree.flag⟩

/-- Settles O23: each operation steps its register and ends in `SetZN` of it. -/
theorem indexRegistersStepByOne : Obligations.IndexRegistersStepByOne := by
  refine ⟨encodedBy_of_table (by decide), encodedBy_of_table (by decide), encodedBy_of_table (by decide),
    encodedBy_of_table (by decide), fun s hc => ?_⟩
  simp only [ofNat_toNat_add_one, ofInt_toNat_sub_one]
  have hstep (i : Instr) (step : Visible → Visible) := congrArg step (resolve_entry_visible i s)
  exact ⟨
    runsTo_setZN hc rfl rfl rfl rfl (hstep .inx fun u => { u with x := u.x + 1 }),
    runsTo_setZN hc rfl rfl rfl rfl (hstep .iny fun u => { u with y := u.y + 1 }),
    runsTo_setZN hc rfl rfl rfl rfl (hstep .dex fun u => { u with x := u.x - 1 }),
    runsTo_setZN hc rfl rfl rfl rfl (hstep .dey fun u => { u with y := u.y - 1 })⟩

end Sys2Proof.Machine
end

section
/-! SUPPORT. What the logic operations, BIT and the shifts leave (R145 to R153): a byte from its bits or its number, the
visible state, the flags. -/

namespace Sys2Proof.Machine

/-! The logic operations (R146 to R148): a byte is determined by its bits. -/

theorem eq_and_of_getLsbD {v a m : Byte} (h : ∀ k, v.getLsbD k = (a.getLsbD k && m.getLsbD k)) : v = a &&& m :=
  BitVec.eq_of_getLsbD_eq fun k _ => (h k).trans BitVec.getLsbD_and.symm

theorem eq_xor_of_getLsbD {v a m : Byte} (h : ∀ k, v.getLsbD k = Bool.xor (a.getLsbD k) (m.getLsbD k)) :
    v = a ^^^ m :=
  BitVec.eq_of_getLsbD_eq fun k _ => (h k).trans BitVec.getLsbD_xor.symm

theorem eq_or_of_getLsbD {v a m : Byte} (h : ∀ k, v.getLsbD k = (a.getLsbD k || m.getLsbD k)) : v = a ||| m :=
  BitVec.eq_of_getLsbD_eq fun k _ => (h k).trans BitVec.getLsbD_or.symm

/-- An operation that combines A with its operand byte, loads A with the result and ends in `SetZN` of it. -/
theorem runsTo_combineA {i : Instr} {s : State} {op : Operation} (combine : Byte → Byte → Byte)
    (hc : s.connected = true) (hop : i.mnemonic.operation = some op)
    (hcombine : ∀ m t, (op m t).1 = { m.fetch t with a := combine t.a (m.value t) }.setZN (combine t.a (m.value t))) :
    RunsTo i s { i.done s with a := combine s.a (i.source s) } (zn (combine s.a (i.source s))) := by
  have ha : (i.operand.resolve (i.entry s)).a = s.a := congrArg Visible.a (resolve_entry_visible i s)
  have hresult := congrArg₂ combine ha (value_resolve i s)
  have hload := congrArg₂ (fun u v => { u with a := v }) (resolve_entry_visible i s) hresult
  exact runsTo_setZN hc hop rfl (hcombine _ _) hresult hload

/-! BIT (R149). -/

/-- The flags of BIT, in the form a claim `RunsTo` lists them. -/
theorem State.getFlag_bitTest_lookup (s : State) (m : Byte) (f : Flag) :
    (s.bitTest m).getFlag f =
      (([(.z, (s.a &&& m) == 0x00#8), (.v, m.getLsbD 6), (.n, m.getLsbD 7)] :
        List (Flag × Bool)).lookup f).getD (s.getFlag f) := by
  rw [State.getFlag_bitTest]
  cases f <;> rfl

/-! The shifts and rotates (R150 to R153). -/

/-- C set before `SetZN`, in the form a claim `RunsTo` lists the flags. -/
theorem statusFlag_carry_zn (s : State) (carry : Bool) (v : Byte) (f : Flag) :
    statusFlag (statusWith (statusWith (statusWith s.p .c carry) .z (v == 0x00#8)) .n (v.getLsbD 7)) f =
      (((.c, carry) :: zn v).lookup f).getD (s.getFlag f) := by
  have h := statusFlag_zn (s.setFlag .c carry) v f
  rw [State.getFlag_setFlag] at h
  refine h.trans ?_
  cases f <;> rfl

/-- An operation that gives C the value `carry` and ends in `SetZN(r)`. -/
theorem runsTo_carry_setZN {i : Instr} {s t : State} {op : Operation} {v : Visible} {carry : Bool} {r : Byte}
    (hc : s.connected = true) (hop : i.mnemonic.operation = some op) (hcycles : v.cycles = i.baseCycles + i.pageCycle s)
    (ht : (op i.operand (i.operand.resolve (i.entry s))).1 = t.setZN r)
    (hv : t.visible = { v with p := statusWith s.p .c carry, cycles := i.baseCycles }) :
    RunsTo i s v ((.c, carry) :: zn r) := by
  have hstatus : (t.setZN r).visible =
      { t.visible with p := statusWith (statusWith t.visible.p .z (r == 0x00#8)) .n (r.getLsbD 7) } := rfl
  exact runsTo_of_operation hc hop hcycles (by rw [ht, hstatus, hv]) (statusFlag_carry_zn s carry r)

/-- The write-back changes A or one byte of memory (R91). -/
theorem Operand.writeBack_visible (m : Operand) (s : State) (v : Byte) :
    (m.writeBack s v).visible =
      if m = .acc then { s.visible with a := v } else { s.visible with mem := (s.write s.addrAbs v).mem } := by
  cases m <;> rfl

/-- The state of the shared body, from its result and the bit that leaves (R150 to R153). -/
theorem shiftWith_fst {k : Nat} {result : Byte → Bool → Byte} {m : Operand} {s : State} {r : Byte} {carry : Bool}
    (hresult : result (m.value s) (s.getFlag .c) = r) (hcarry : (m.value s).getLsbD k = carry) :
    (shiftWith k result m s).1 = (m.writeBack ((m.fetch s).setFlag .c carry) r).setZN r := by
  subst hresult hcarry
  rfl

/-- What a shift or rotate leaves: the result in A or in memory, the bit that left in C, and Z and N. -/
theorem runsTo_shiftWith {i : Instr} {s : State} {k : Nat} {result : Byte → Bool → Byte} {r : Byte} {carry : Bool}
    (hc : s.connected = true) (hop : i.mnemonic.operation = some (shiftWith k result))
    (hresult : result (i.source s) (s.getFlag .c) = r) (hcarry : (i.source s).getLsbD k = carry) :
    RunsTo i s
      (if i.operand = .acc then { i.done s with a := r } else { i.done s with mem := (s.write (i.target s) r).mem })
      ((.c, carry) :: zn r) := by
  let u := (i.operand.fetch (i.operand.resolve (i.entry s))).setFlag .c carry
  have haddr : u.addrAbs = i.target s := Operand.resolve_addrAbs _ _
  have hbase : u.visible = { i.done s with p := statusWith s.p .c carry, cycles := i.baseCycles } :=
    congrArg (fun w => { w with p := statusWith w.p .c carry }) (resolve_entry_visible i s)
  have hshift : (shiftWith k result i.operand (i.operand.resolve (i.entry s))).1 =
      (i.operand.writeBack u r).setZN r :=
    shiftWith_fst (by rw [value_resolve, resolve_getFlag, hresult]) (by rw [value_resolve, hcarry])
  refine runsTo_carry_setZN hc hop (by split <;> rfl) hshift ?_
  rw [Operand.writeBack_visible]
  by_cases hacc : i.operand = .acc
  · rw [if_pos hacc, if_pos hacc, hbase]
  · rw [if_neg hacc, if_neg hacc]
    exact congrArg₂ (fun w addr => { w with mem := Memory.write w.mem (BitVec.toNat addr) r }) hbase haddr

/-! The bit that leaves, on numbers. -/

theorem getLsbD_seven_eq (m : Byte) : m.getLsbD 7 = (m.toNat / 128 == 1) := by
  revert m
  decide

theorem getLsbD_zero_eq (m : Byte) : m.getLsbD 0 = (m.toNat % 2 == 1) := by
  revert m
  decide

/-- The numbers of R150 to R153 are those of the operation: its result, and the bit of the operand that leaves. -/
theorem shiftOnNumbers_eq {mn : Mnemonic} {m : Byte} {c : Bool} {v carry : Nat}
    (h : shiftOnNumbers mn m.toNat c.toNat = some (v, carry)) :
    ∃ k result, mn.operation = some (shiftWith k result) ∧ (result m c).toNat = v ∧
      m.getLsbD k = (carry == 1) := by
  cases mn with
  | asl => cases h; exact ⟨7, fun m _ => aslResult m, rfl, aslResult_toNat m, getLsbD_seven_eq m⟩
  | lsr => cases h; exact ⟨0, fun m _ => lsrResult m, rfl, lsrResult_toNat m, getLsbD_zero_eq m⟩
  | rol => cases h; exact ⟨7, rolResult, rfl, rolResult_toNat m c, getLsbD_seven_eq m⟩
  | ror => cases h; exact ⟨0, rorResult, rfl, rorResult_toNat m c, getLsbD_zero_eq m⟩
  | _ => cases h

end Sys2Proof.Machine
end

section
/-! PROOFS. The statements of 44_logic_shift.md: the logic operations, BIT, shifts and rotates. -/

namespace Sys2Proof.Machine

/-- Settles O24: the bits determine the byte, which is the operation's own combination of A and the operand. -/
theorem logicWorksBitByBit : Obligations.LogicWorksBitByBit := by
  refine ⟨encodedBy_of_table (by decide), encodedBy_of_table (by decide), encodedBy_of_table (by decide),
    fun i s hc v hv => ?_⟩
  rcases hv with ⟨hm, hbits⟩ | ⟨hm, hbits⟩ | ⟨hm, hbits⟩
  · rw [eq_and_of_getLsbD hbits]
    exact runsTo_combineA (· &&& ·) hc (operation_of_mnemonic hm rfl) fun _ _ => rfl
  · rw [eq_xor_of_getLsbD hbits]
    exact runsTo_combineA (· ^^^ ·) hc (operation_of_mnemonic hm rfl) fun _ _ => rfl
  · rw [eq_or_of_getLsbD hbits]
    exact runsTo_combineA (· ||| ·) hc (operation_of_mnemonic hm rfl) fun _ _ => rfl

/-- Settles O25: BIT is the three flags of `bitTest` and nothing else. -/
theorem bitCopiesTheTopBits : Obligations.BitCopiesTheTopBits := by
  refine ⟨encodedBy_of_table (by decide), fun i s hc hm => ?_⟩
  let u := i.operand.fetch (i.operand.resolve (i.entry s))
  have ha : u.a = s.a := congrArg Visible.a (resolve_entry_visible i s)
  have hflags := State.getFlag_bitTest_lookup u (i.source s)
  rw [ha, funext (fetch_getFlag i s)] at hflags
  have hbit : (opBit i.operand (i.operand.resolve (i.entry s))).1 = u.bitTest (i.source s) := by
    rw [← value_resolve i s]
    rfl
  refine runsTo_of_operation hc (operation_of_mnemonic hm rfl) rfl ((congrArg State.visible hbit).trans ?_) hflags
  exact congrArg (fun v => { v with p := (u.bitTest (i.source s)).p }) (resolve_entry_visible i s)

/-- Settles O26: the four operations are `shiftWith` of their result and the bit that leaves. -/
theorem shiftsAndRotatesMoveOneBit : Obligations.ShiftsAndRotatesMoveOneBit := by
  refine ⟨encodedBy_of_table (by decide), encodedBy_of_table (by decide), encodedBy_of_table (by decide),
    encodedBy_of_table (by decide), fun i s hc v carry h => ?_⟩
  obtain ⟨k, result, hop, hresult, hcarry⟩ := shiftOnNumbers_eq h
  exact runsTo_shiftWith hc hop (BitVec.eq_of_toNat_eq (by simp [← hresult])) hcarry

end Sys2Proof.Machine
end

section
/-! SUPPORT. What a control transfer leaves (R160 to R172): the stacked return address of JSR and RTS, a branch with its
counter, a jump; and what a claim `RunsTo` says of the state `exec` answers. -/

namespace Sys2Proof.Machine

/-- `exec` answers the one state a claim about the instruction speaks of. -/
theorem RunsTo.visible_of_exec {i : Instr} {s t : State} {v : Visible} {flags : List (Flag × Bool)}
    (h : RunsTo i s v flags) (ht : exec i s = .next t) : t.visible = { v with p := t.p } := by
  obtain ⟨u, hu, hv, -⟩ := h
  obtain rfl : t = u := Host.Outcome.next.inj (ht.symm.trans hu)
  exact hv

/-! Two pushes and two pulls (R55, R60, R61). -/

theorem State.push16_sp_sub_two (s : State) (v : Addr) : (s.push16 v).sp = s.sp - 2 := by
  rw [State.push16_sp]
  bv_omega

theorem State.push16_visible (s : State) (v : Addr) :
    (s.push16 v).visible = { s.visible with mem := (s.push16 v).mem, sp := s.sp - 2 } := by
  rw [← State.push16_sp_sub_two s v]
  simp [State.visible]

theorem State.pop16_visible (s : State) : s.pop16.visible = { s.visible with sp := s.sp + 2 } := by
  have hsp : s.pop16.sp = s.sp + 2 := (State.pop16_sp s).trans (BitVec.add_assoc ..)
  rw [← hsp]
  simp [State.visible]

/-- The 16-bit value two pulls return stands above SP, low byte first (R61, R162). -/
theorem State.pulled16_eq (s : State) :
    s.pulled16 = joinBytes (s.read (stackAddr (s.sp + 2))) (s.read (stackAddr (s.sp + 1))) := by
  have hsp : s.sp + 1 + 1 = s.sp + 2 := BitVec.add_assoc ..
  rw [← hsp]
  rfl

/-- What two pulls return depends on memory and SP alone. -/
theorem State.pulled16_congr {s t : State} (hmem : t.mem = s.mem) (hsp : t.sp = s.sp) : t.pulled16 = s.pulled16 := by
  rw [State.pulled16_eq, State.pulled16_eq, hsp, State.read_of_mem_eq s t hmem, State.read_of_mem_eq s t hmem]

/-- Two pulls return the 16-bit value that was pushed, at every SP: the two stack slots differ (R60, R61). -/
theorem State.pulled16_push16 (s : State) (v : Addr) (hm : Memory.wf s.mem = true) : (s.push16 v).pulled16 = v := by
  have hlo : (s.push16 v).pulled = loByte v := State.pulled_push _ _ (State.wf_push s _ hm)
  have hsp : (s.push16 v).sp + 1 + 1 = s.sp := by
    rw [State.push16_sp]
    bv_omega
  have hne : stackAddr s.sp ≠ stackAddr (s.sp - 1) := fun h => by
    have := stackAddr_inj h
    bv_omega
  have hhi : (s.push16 v).pop.pulled = hiByte v := by
    change (s.push16 v).read (stackAddr ((s.push16 v).sp + 1 + 1)) = hiByte v
    rw [hsp]
    exact (State.read_push_other _ _ hne).trans (State.read_write_self s _ _ hm)
  rw [State.pulled16, hhi, hlo, joinBytes_hiByte_loByte]

/-! JSR and RTS (R161, R162). -/

/-- JSR pushes the address of its last byte, which is PC after it minus 1, and goes to its operand. -/
theorem runsTo_jsr {s : State} (hc : s.connected = true) (addr : Addr) :
    RunsTo (.jsr addr) s
      { (Instr.jsr addr).done s with mem := (s.push16 (s.pc + 2)).mem, sp := s.sp - 2, pc := addr } [] := by
  let u := (Instr.jsr addr).operand.resolve ((Instr.jsr addr).entry s)
  have hpc : u.pc - 1 = s.pc + 2 := by
    change s.pc + 1 + 2 - 1 = s.pc + 2
    bv_omega
  have hpush : (u.push16 (u.pc - 1)).mem = (s.push16 (s.pc + 2)).mem := by
    rw [hpc]
    rfl
  have hvisible := State.push16_visible u (u.pc - 1)
  rw [hpush] at hvisible
  exact runsTo_noFlags hc (op := opJsr) rfl rfl (congrArg (fun v => { v with pc := addr }) hvisible)

/-- RTS continues at the pulled address plus 1. -/
theorem runsTo_rts {s : State} (hc : s.connected = true) :
    RunsTo .rts s { Instr.rts.done s with pc := s.pulled16 + 1, sp := s.sp + 2 } [] := by
  let u := Instr.rts.operand.resolve (Instr.rts.entry s)
  exact runsTo_noFlags hc (op := opRts) rfl rfl
    (congrArg (fun v => { v with pc := s.pulled16 + 1 }) (State.pop16_visible u))

/-! The branches (R163). -/

/-- A branch writes PC and the counter: to its target when its flag has the wanted value, past its two bytes otherwise. -/
theorem runsTo_branch {i : Instr} {s : State} {d : Byte} {f : Flag} {b : Bool} (hc : s.connected = true)
    (hd : i.operand = .rel d) (hb : branchCondition i.mnemonic = some (f, b)) :
    RunsTo i s
      { s.visible with
        pc := if s.getFlag f == b then branchTargetOf s d else s.pc + 2
        cycles := BitVec.ofNat 8 (totalTicks i s) } [] := by
  have hmn : i.mnemonic ≠ .undocumented := fun e => by
    rw [e] at hb
    cases hb
  obtain ⟨op, hop⟩ := operation_of_documented hmn
  have hbranch := operation_eq_branch hop hb i.operand (i.operand.resolve (i.entry s))
  rw [resolve_getFlag] at hbranch
  have hpc : (runOperation i.operand op (i.entry s)).pc =
      if s.getFlag f == b then branchTargetOf s d else s.pc + 2 := by
    rw [runOperation_pc, hbranch, branch_pc, hd, branchTarget_resolve_rel, resolve_rel_pc]
  have hcycles : (runOperation i.operand op (i.entry s)).cycles = BitVec.ofNat 8 (totalTicks i s) := by
    rw [← runOperation_cycles_toNat hop, BitVec.ofNat_toNat, BitVec.setWidth_eq]
  refine runsTo_intro hc hop ?_ (flags_of_status (p := s.p) (by simp [hbranch]) fun _ => rfl)
  rw [← hpc, ← hcycles]
  simp [State.visible, hbranch]

/-! JMP (R172). -/

theorem baseCycles_jmpAbs (addr : Addr) : (Instr.jmpAbs addr).baseCycles = 3 := by
  change (opcodeBaseCycles 0x4C#8).getD 0 = 3
  decide

theorem baseCycles_jmpInd (ptr : Addr) : (Instr.jmpInd ptr).baseCycles = 5 := by
  change (opcodeBaseCycles 0x6C#8).getD 0 = 5
  decide

/-- JMP goes to the address its mode resolves to, in its base count: no page-cross cycle is charged (R94). -/
theorem runsTo_jmp {i : Instr} {s : State} {n : Byte} (hc : s.connected = true) (hm : i.mnemonic = .jmp)
    (hn : i.baseCycles = n) : RunsTo i s { s.visible with pc := i.target s, cycles := n } [] := by
  have hpage : i.pageCycle s = 0 := pageCycle_of_not_reports s (hm ▸ rfl)
  have hcycles : n = i.baseCycles + i.pageCycle s := by
    rw [hpage, hn]
    exact (BitVec.add_zero n).symm
  have haddr : (i.operand.resolve (i.entry s)).addrAbs = i.target s := Operand.resolve_addrAbs _ _
  exact runsTo_noFlags hc (operation_of_mnemonic hm rfl) hcycles
    (congrArg₂ (fun v addr => { v with pc := addr }) (resolve_entry_visible i s) haddr)

/-- The pointer of JMP indirect: its high byte is read in the page of the low byte (R84). -/
theorem target_jmpInd (addr : Addr) (s : State) :
    (Instr.jmpInd addr).target s =
      joinBytes (s.read (joinBytes (hiByte addr) (loByte addr + 1))) (s.read addr) := by
  change s.readInPage (hiByte addr) (loByte addr) = _
  rw [State.readInPage, joinBytes_hiByte_loByte]

end Sys2Proof.Machine
end

section
/-! PROOFS. The statements of 45_control_flow.md: JSR and RTS, the branches, JMP. -/

namespace Sys2Proof.Machine

/-- Settles O27: JSR is two pushes of the address of its last byte, RTS two pulls. -/
theorem jsrAndRtsUseTheStackedAddress : Obligations.JsrAndRtsUseTheStackedAddress := by
  refine ⟨encodedBy_of_table (by decide), encodedBy_of_table (by decide), fun s hc => ?_⟩
  simp only [joinBytes_stackPage, ← State.push16_mem, ← State.pulled16_eq]
  exact ⟨runsTo_jsr hc, runsTo_rts hc⟩

/-- Settles O28: two pulls return the 16-bit value two pushes stored, and leave SP as it was. -/
theorem rtsReturnsFromJsr : Obligations.RtsReturnsFromJsr := by
  intro addr s t u w hc hm hjsr hcu hmem hsp hrts
  have ht := (runsTo_jsr hc addr).visible_of_exec hjsr
  have hw := (runsTo_rts hcu).visible_of_exec hrts
  have htmem : t.mem = (s.push16 (s.pc + 2)).mem := congrArg Visible.mem ht
  have htsp : t.sp = s.sp - 2 := congrArg Visible.sp ht
  have hpulled : u.pulled16 = s.pc + 2 :=
    (State.pulled16_congr (hmem.trans htmem) (hsp.trans (htsp.trans (State.push16_sp_sub_two s _).symm))).trans
      (State.pulled16_push16 s _ hm)
  have hwpc : w.pc = u.pulled16 + 1 := congrArg Visible.pc hw
  have hwsp : w.sp = u.sp + 2 := congrArg Visible.sp hw
  have hwmem : w.mem = u.mem := congrArg Visible.mem hw
  refine ⟨?_, ?_, hwmem.trans hmem⟩
  · rw [hwpc, hpulled, BitVec.add_assoc]
    rfl
  · rw [hwsp, hsp, htsp, BitVec.sub_add_cancel]

/-- Settles O29: the two outcomes of a branch, with its ticks by R98. -/
theorem branchesFollowTheirFlag : Obligations.BranchesFollowTheirFlag := by
  refine ⟨encodedBy_of_table (by decide), encodedBy_of_table (by decide), encodedBy_of_table (by decide),
    encodedBy_of_table (by decide), encodedBy_of_table (by decide), encodedBy_of_table (by decide),
    encodedBy_of_table (by decide), encodedBy_of_table (by decide), fun i s d f b hc hd hb => ?_⟩
  have hrun := runsTo_branch hc hd hb
  rw [totalTicks_of_branch hb hd] at hrun
  refine ⟨fun hne => ?_, fun heq => ?_⟩
  · simp only [beq_false_of_ne hne] at hrun
    exact hrun
  · have hticks : BitVec.ofNat 8 (2 + (1 + (pageCross (branchTargetOf s d) (s.pc + 2)).toNat)) =
        if (branchTargetOf s d).toNat / 256 = (s.pc + 2).toNat / 256 then 3#8 else 4#8 := by
      rw [pageCross_eq]
      split
      · next hpage => rw [decide_eq_false (not_not.2 hpage)]; rfl
      · next hpage => rw [decide_eq_true hpage]; rfl
    simp only [heq, beq_self_eq_true, if_true, hticks] at hrun
    exact hrun

/-- Settles O30: both forms go to the address of their mode, the operand or the pointer at it. -/
theorem jmpGoesToItsAddress : Obligations.JmpGoesToItsAddress := by
  refine ⟨encodedBy_of_table (by decide), fun addr s hc => ⟨?_, ?_⟩⟩
  · exact runsTo_jmp hc rfl (baseCycles_jmpAbs addr)
  · rw [← target_jmpInd]
    exact runsTo_jmp hc rfl (baseCycles_jmpInd addr)

end Sys2Proof.Machine
end

section
/-! SUPPORT. What a flag instruction, an exception entry, the return from one and an undocumented opcode leave (R176 to
R186), and what a claim `RunsTo` says of the flags of the state `exec` answers. -/

namespace Sys2Proof.Machine

/-- The flags of the state `exec` answers, from a claim about the instruction. -/
theorem RunsTo.getFlag_of_exec {i : Instr} {s t : State} {v : Visible} {flags : List (Flag × Bool)}
    (h : RunsTo i s v flags) (ht : exec i s = .next t) (f : Flag) :
    t.getFlag f = (flags.lookup f).getD (s.getFlag f) := by
  obtain ⟨u, hu, -, hf⟩ := h
  obtain rfl : t = u := Host.Outcome.next.inj (ht.symm.trans hu)
  exact hf f

/-! One flag (R30, R176 to R182). -/

/-- `SetFlag(f, b)` in the form a claim `RunsTo` lists it. -/
theorem statusFlag_statusWith_lookup (s : State) (f : Flag) (b : Bool) (g : Flag) :
    statusFlag (statusWith s.p f b) g = (([(f, b)] : List (Flag × Bool)).lookup g).getD (s.getFlag g) := by
  rw [statusFlag_statusWith]
  by_cases h : g = f
  · simp [h]
  · simp [h, List.lookup, beq_false_of_ne h, State.getFlag]

/-- An operation that is `SetFlag(f, b)` changes that flag alone. -/
theorem runsTo_setFlag {i : Instr} {s : State} {op : Operation} {f : Flag} {b : Bool} (hc : s.connected = true)
    (hop : i.mnemonic.operation = some op)
    (hset : (op i.operand (i.operand.resolve (i.entry s))).1 = (i.operand.resolve (i.entry s)).setFlag f b) :
    RunsTo i s (i.done s) [(f, b)] := by
  have hvisible := congrArg (fun v => { v with p := statusWith v.p f b }) (resolve_entry_visible i s)
  exact runsTo_of_operation hc hop rfl ((congrArg State.visible hset).trans hvisible)
    (statusFlag_statusWith_lookup s f b)

/-! The exception entry, shared by BRK and the interrupts (R183, R202). -/

/-- An address above page 1 is no stack slot (R24). -/
theorem ne_stackAddr {addr : Addr} (h : 0x200 ≤ addr.toNat) (sp : Byte) : addr ≠ stackAddr sp := by
  rintro rfl
  rw [stackAddr_toNat] at h
  have := sp.isLt
  omega

/-- What an exception entry leaves, through a vector above the stack page: the pushes do not reach the vector. -/
theorem State.enterException_visible (s : State) (pushedP : Byte) {vector : Addr} (hlo : 0x200 ≤ vector.toNat)
    (hhi : 0x200 ≤ (vector + 1).toNat) :
    (s.enterException pushedP vector).visible =
      { s.visible with
        mem := ((s.push16 s.pc).push pushedP).mem, sp := s.sp - 3
        pc := joinBytes (s.read (vector + 1)) (s.read vector), p := statusWith s.p .i true } := by
  have hread {addr : Addr} (h : 0x200 ≤ addr.toNat) : ((s.push16 s.pc).push pushedP).read addr = s.read addr :=
    (State.read_push_other _ _ (ne_stackAddr h _)).trans
      (State.read_push16_other _ _ (ne_stackAddr h _) (ne_stackAddr h _))
  have hpc : (s.enterException pushedP vector).pc = joinBytes (s.read (vector + 1)) (s.read vector) := by
    rw [State.enterException_pc, State.read16, hread hlo, hread hhi]
  have hsp : (s.enterException pushedP vector).sp = s.sp - 3 := by
    rw [State.enterException_sp]
    bv_omega
  rw [← hpc, ← hsp]
  simp [State.visible]

/-- Where the three pushes of an exception entry store (R183, R202). -/
theorem State.push16_push_mem (s : State) (v : Addr) (w : Byte) :
    ((s.push16 v).push w).mem =
      (((s.write (stackAddr s.sp) (hiByte v)).write (stackAddr (s.sp - 1)) (loByte v)).write
        (stackAddr (s.sp - 2)) w).mem := by
  rw [← State.push16_sp_sub_two s v]
  rfl

/-- BRK enters through the vector at 0xFFFE with PC past its padding byte (R183). -/
theorem runsTo_brk {s : State} (hc : s.connected = true) :
    RunsTo .brk s
      { s.visible with
        mem := ((s.push16 (s.pc + 2)).push (pushedBySoftware s.p)).mem, sp := s.sp - 3
        pc := joinBytes (s.read 0xFFFF#16) (s.read 0xFFFE#16), cycles := 7 } [(.i, true)] := by
  let u := Instr.brk.operand.resolve (Instr.brk.entry s)
  have hskip : (opBrk .imp u).1 =
      ({ u with pc := s.pc + 2 } : State).enterException (pushedBySoftware s.p) irqVector := by
    change State.enterException { u with pc := s.pc + 1 + 1 } _ _ = _
    rw [BitVec.add_assoc]
    rfl
  have hvisible := State.enterException_visible { u with pc := s.pc + 2 } (pushedBySoftware s.p)
    (vector := irqVector) (by decide) (by decide)
  exact runsTo_of_operation hc (op := opBrk) rfl rfl ((congrArg State.visible hskip).trans hvisible)
    (statusFlag_statusWith_lookup s .i true)

/-! The return (R184): the pulled status, then the pulled PC. -/

theorem State.returnFromException_visible (s : State) :
    s.returnFromException.visible =
      { s.visible with pc := s.pop.pulled16, sp := s.sp + 3, p := pulledStatus s.pulled } := by
  have hsp : s.returnFromException.sp = s.sp + 3 := by
    rw [State.returnFromException_sp]
    bv_omega
  rw [← hsp]
  simp [State.visible]

/-- RTI loads all eight flags from the pulled status and continues at the pulled PC (R184). -/
theorem runsTo_rti {s : State} (hc : s.connected = true) :
    RunsTo .rti s { s.visible with pc := s.pop.pulled16, sp := s.sp + 3, cycles := 6 }
      [(.c, s.pulled.getLsbD 0), (.z, s.pulled.getLsbD 1), (.i, s.pulled.getLsbD 2), (.d, s.pulled.getLsbD 3),
       (.b, false), (.u, true), (.v, s.pulled.getLsbD 6), (.n, s.pulled.getLsbD 7)] := by
  let u := Instr.rti.operand.resolve (Instr.rti.entry s)
  exact runsTo_of_operation hc (op := opRti) rfl rfl (State.returnFromException_visible u)
    (statusFlag_pulledStatus_lookup s.pulled s.getFlag)

/-- The 16-bit value above one pulled byte (R61, R184). -/
theorem State.pulled16_pop_eq (s : State) :
    s.pop.pulled16 = joinBytes (s.read (stackAddr (s.sp + 3))) (s.read (stackAddr (s.sp + 2))) := by
  have h2 : s.pop.sp + 1 = s.sp + 2 := BitVec.add_assoc ..
  have h3 : s.pop.sp + 2 = s.sp + 3 := BitVec.add_assoc ..
  rw [State.pulled16_eq, h2, h3]
  rfl

/-! A return finds the stack as an entry left it (R197). -/

/-- What one pull returns depends on memory and SP alone. -/
theorem State.pulled_congr {s t : State} (hmem : t.mem = s.mem) (hsp : t.sp = s.sp) : t.pulled = s.pulled := by
  rw [State.pulled, State.pulled, hsp, State.read_of_mem_eq s t hmem]

/-- Past a pushed byte, two pulls return what they did before: the three stack slots differ (R60, R61). -/
theorem State.pulled16_pop_push (s : State) (v : Byte) : (s.push v).pop.pulled16 = s.pulled16 := by
  have hsp : (s.push v).pop.sp = s.sp := BitVec.sub_add_cancel ..
  have hread {k : Byte} (hk : k ≠ 0) : (s.push v).pop.read (stackAddr (s.sp + k)) = s.read (stackAddr (s.sp + k)) := by
    refine State.read_push_other s v fun h => hk ?_
    exact BitVec.add_right_eq_self.1 (stackAddr_inj h)
  rw [State.pulled16_eq, State.pulled16_eq, hsp, hread (by decide), hread (by decide)]

/-- A status pushed by BRK and loaded by RTI keeps every flag but B and U (R29). -/
theorem statusFlag_pulledStatus_pushedBySoftware (p : Byte) {f : Flag} (hb : f ≠ .b) (hu : f ≠ .u) :
    statusFlag (pulledStatus (pushedBySoftware p)) f = statusFlag p f := by
  rw [statusFlag_pulledStatus]
  cases f with
  | b => exact absurd rfl hb
  | u => exact absurd rfl hu
  | _ => exact statusFlag_pushedBySoftware p _

/-! The undocumented opcodes (R186). -/

/-- The fetch of an undocumented opcode gives the one constructor that carries it (R93, R95). -/
theorem fetchInstr_of_undocumented {s : State} {op : Byte} (hop : op ∈ undocumentedOpcodes)
    (hread : s.read s.pc = op) : fetchInstr s = .undocumented op := by
  obtain ⟨-, -, -, hdecode⟩ := placeholdersAreTheUndocumentedOpcodes
  rw [fetchInstr, hread]
  exact (hdecode op _ _).1.2 hop

theorem undocumentedFetch_refuse {s : State} (op : Byte) (h : s.params.illegalOpcodePolicy = .refuse) :
    undocumentedFetch op s = { s with refused := some ⟨op, s.pc⟩ } := by
  rw [undocumentedFetch, h]

theorem undocumentedFetch_placeholder {s : State} (op : Byte) {cost : Vector Byte 256}
    (h : s.params.illegalOpcodePolicy = .placeholder cost) :
    undocumentedFetch op s = { s with pc := s.pc + 1, opcode := op, cycles := cost.get op.toFin } := by
  rw [undocumentedFetch, h]
  rfl

/-- A machine with a recorded refusal has no step (R35, R186). -/
theorem step_of_refused {s : State} {r : IllegalOpcode} (hf : s.fault = none) (hr : s.refused = some r) :
    step s = .refused (.illegalOpcode r.op r.addr) := by
  rw [step, hf, hr]

end Sys2Proof.Machine
end

section
/-! PROOFS. The statements of 46_flags_system.md: BRK and RTI, the flag instructions, NOP, the undocumented opcodes. -/

namespace Sys2Proof.Machine

/-- Settles O32: BRK is the shared exception entry after the padding byte, at every SP. -/
theorem brkEntersThroughItsVector : Obligations.BrkEntersThroughItsVector := by
  refine ⟨encodedBy_of_table (by decide), fun s hc => ?_⟩
  simp only [joinBytes_stackPage]
  have hbrk := runsTo_brk hc
  rw [State.push16_push_mem] at hbrk
  exact hbrk

/-- Settles O33: RTI is one pull of the status and two of PC. -/
theorem rtiRestoresStatusAndPc : Obligations.RtiRestoresStatusAndPc := by
  refine ⟨encodedBy_of_table (by decide), fun s hc => ?_⟩
  simp only [joinBytes_stackPage, ← State.pulled16_pop_eq]
  exact runsTo_rti hc

/-- Settles O34: the three pulls of RTI return what the three pushes of BRK stored, and leave SP as it was. -/
theorem rtiReturnsFromBrk : Obligations.RtiReturnsFromBrk := by
  intro s t u w hc hm hbrk hcu hmem hsp hrti
  let e := (s.push16 (s.pc + 2)).push (pushedBySoftware s.p)
  have ht := (runsTo_brk hc).visible_of_exec hbrk
  have hw := (runsTo_rti hcu).visible_of_exec hrti
  have hue : u.mem = e.mem := hmem.trans (congrArg Visible.mem ht)
  have htsp : t.sp = s.sp - 3 := congrArg Visible.sp ht
  have husp : u.sp = e.sp := by
    rw [hsp, htsp, State.push_sp, State.push16_sp]
    bv_omega
  have hpulled : u.pulled = pushedBySoftware s.p :=
    (State.pulled_congr hue husp).trans (State.pulled_push _ _ (State.wf_push16 _ _ hm))
  have hpc : u.pop.pulled16 = s.pc + 2 :=
    calc u.pop.pulled16
      _ = e.pop.pulled16 := State.pulled16_congr hue (congrArg (· + 1) husp)
      _ = (s.push16 (s.pc + 2)).pulled16 := State.pulled16_pop_push _ _
      _ = s.pc + 2 := State.pulled16_push16 s _ hm
  have hflag (f : Flag) : w.getFlag f = statusFlag (pulledStatus (pushedBySoftware s.p)) f := by
    rw [(runsTo_rti hcu).getFlag_of_exec hrti f, ← statusFlag_pulledStatus_lookup, hpulled]
  have hwsp : w.sp = u.sp + 3 := congrArg Visible.sp hw
  refine ⟨(congrArg Visible.pc hw).trans hpc, ?_, ?_, ?_, fun f hb hu => ?_⟩
  · rw [hwsp, hsp, htsp, BitVec.sub_add_cancel]
  · rw [hflag, statusFlag_pulledStatus]
  · rw [hflag, statusFlag_pulledStatus]
  · exact (hflag f).trans (statusFlag_pulledStatus_pushedBySoftware s.p hb hu)

/-- Settles O31: each operation is one `SetFlag`. -/
theorem flagInstructionsWriteOneFlag : Obligations.FlagInstructionsWriteOneFlag := by
  refine ⟨encodedBy_of_table (by decide), encodedBy_of_table (by decide), encodedBy_of_table (by decide),
    encodedBy_of_table (by decide), encodedBy_of_table (by decide), encodedBy_of_table (by decide),
    encodedBy_of_table (by decide), fun s hc => ?_⟩
  exact ⟨runsTo_setFlag hc (op := opClc) rfl rfl, runsTo_setFlag hc (op := opCld) rfl rfl,
    runsTo_setFlag hc (op := opCli) rfl rfl, runsTo_setFlag hc (op := opClv) rfl rfl,
    runsTo_setFlag hc (op := opSec) rfl rfl, runsTo_setFlag hc (op := opSed) rfl rfl,
    runsTo_setFlag hc (op := opSei) rfl rfl⟩

/-- Settles O35: the operation of NOP leaves the state it starts from. -/
theorem nopOnlyAdvancesPc : Obligations.NopOnlyAdvancesPc := by
  refine ⟨encodedBy_of_table (by decide), fun s hc => ?_⟩
  exact runsTo_noFlags hc (op := opNop) rfl rfl (resolve_entry_visible .nop s)

/-- Settles O36: the marking tick writes the mark alone, and its decrement finds the counter at 0. -/
theorem undocumentedIsRefused : Obligations.UndocumentedIsRefused := by
  intro op s hpolicy hc
  let marked : State := { s with refused := some ⟨op, s.pc⟩ }
  have hexec : exec (.undocumented op) s = .next marked := by
    rw [exec_undocumented op hc, undocumentedFetch_refuse op hpolicy]
  refine ⟨hexec, fun hop hnext hread => ⟨?_, step_of_refused (s := marked) hnext.running.1 rfl⟩⟩
  rw [step_fetch hnext, fetchInstr_of_undocumented hop hread, hexec]
  exact congrArg Host.Outcome.next (State.countDown_of_zero marked hnext.idle)

/-- Settles O37: the fetch passes the byte and sets the counter, which the tick's own decrement then lowers (R97). -/
theorem undocumentedAsPlaceholder : Obligations.UndocumentedAsPlaceholder := by
  intro op s cost hpolicy hc
  have hexec : exec (.undocumented op) s =
      .next { s with pc := s.pc + 1, opcode := op, cycles := cost.get op.toFin } := by
    rw [exec_undocumented op hc, undocumentedFetch_placeholder op hpolicy]
  refine ⟨hexec, fun hop hnext hread => ?_⟩
  rw [step_fetch hnext, fetchInstr_of_undocumented hop hread, hexec]
  exact executingTickOnlyCountsDown.2 _

end Sys2Proof.Machine
end

section
/-! SUPPORT. Interrupts, marks and the host's moves (60_exceptions.md): which interrupt is taken, what its tick leaves,
which opcode a refusal comes from, and what driving a line does. -/

namespace Sys2Proof.Machine

/-! Which interrupt is taken (R200, R204). -/

theorem pendingInterrupt_eq_some_iff {s : State} {vector : Addr} :
    pendingInterrupt s = some vector ↔ s.params.hasInterruptLines = true ∧
      (s.nmiPending = true ∧ vector = nmiVector ∨
        s.nmiPending = false ∧ s.irqLine = true ∧ s.getFlag .i = false ∧ vector = irqVector) := by
  unfold pendingInterrupt
  rw [eq_comm (a := vector), eq_comm (a := vector)]
  cases s.params.hasInterruptLines with
  | false => simp
  | true =>
    cases s.nmiPending with
    | true => simp
    | false => cases s.irqLine <;> simp

theorem pendingInterrupt_eq_none_iff {s : State} :
    pendingInterrupt s = none ↔ s.params.hasInterruptLines = false ∨
      s.nmiPending = false ∧ (s.irqLine = false ∨ s.getFlag .i = true) := by
  unfold pendingInterrupt
  cases s.params.hasInterruptLines with
  | false => simp
  | true =>
    cases s.nmiPending with
    | true => simp
    | false => cases s.irqLine <;> simp

/-! The tick that takes an interrupt (R202). -/

theorem step_interrupt {s : State} {vector : Addr} (hr : s.Running) (h0 : s.cycles = 0) (hc : s.connected = true)
    (hp : pendingInterrupt s = some vector) : step s = .next (interruptEntry vector s).countDown := by
  rw [step_idle hr h0, idleTick, hp]
  exact congrArg endTick (onBus_connected hc _)

/-- The entry's counter of 7 is 6 after its tick (R202). -/
theorem interruptEntry_countDown_visible (vector : Addr) (s : State) :
    (interruptEntry vector s).countDown.visible =
      { (s.enterException (pushedByInterrupt s.p) vector).visible with
        nmiPending := if vector = nmiVector then false else s.nmiPending, cycles := 6 } := by
  have hcycles : (interruptEntry vector s).countDown.cycles = 6 := by
    apply BitVec.eq_of_toNat_eq
    rw [State.countDown_cycles_toNat, interruptEntry_cycles]
    rfl
  have hpending := interruptEntry_nmiPending vector s
  rw [← hcycles, ← hpending]
  simp [State.visible]

theorem interruptEntry_countDown_getFlag (vector : Addr) (s : State) (f : Flag) :
    (interruptEntry vector s).countDown.getFlag f = if f = .i then true else s.getFlag f := by
  rw [State.getFlag, State.countDown_p, interruptEntry_p, statusFlag_statusWith]
  rfl

/-! The opcode a refusal comes from (R93, R95). -/

theorem read_pc_of_fetchInstr {s : State} {op : Byte} (h : fetchInstr s = .undocumented op) :
    s.read s.pc = op ∧ op ∈ undocumentedOpcodes := by
  have hwf : (fetchInstr s).wellFormed = true := wellFormed_decodeWindow ..
  have henc : (encode (fetchInstr s))[0]? = some (s.read s.pc) := by
    rw [fetchInstr, encode_decodeWindow, Format.bytes_getElem?_zero]
  rw [h] at hwf henc
  exact ⟨(Option.some.inj henc).symm, (isUndocumented_iff op).1 hwf⟩

/-! Driving a line (R201, R206). -/

theorem State.driveIrq_of_lines {s : State} (h : s.params.hasInterruptLines = true) (level : Bool) :
    s.driveIrq level = { s with irqLine := level } := if_pos h

theorem State.driveIrq_of_noLines {s : State} (h : s.params.hasInterruptLines = false) (level : Bool) :
    s.driveIrq level = s := if_neg (by simp [h])

theorem State.driveNmi_of_lines {s : State} (h : s.params.hasInterruptLines = true) (level : Bool) :
    s.driveNmi level = { s with nmiLine := level, nmiPending := s.nmiPending || (level && !s.nmiLine) } := if_pos h

theorem State.driveNmi_of_noLines {s : State} (h : s.params.hasInterruptLines = false) (level : Bool) :
    s.driveNmi level = s := if_neg (by simp [h])

/-! The host's moves and the invariant (R28, R206). -/

theorem inv_write {s : State} (hs : s.Inv) (addr : Addr) (v : Byte) : (s.write addr v).Inv :=
  inv_of_keepsHostSide hs ⟨rfl, rfl, rfl, rfl, rfl, rfl, rfl⟩ (State.wf_write s addr v hs.memory) hs.unusedSet

/-- `SetFlag` keeps the invariant unless it clears U. -/
theorem inv_setFlag {s : State} (hs : s.Inv) {f : Flag} {b : Bool} (h : f = .u → b = true) : (s.setFlag f b).Inv := by
  refine inv_of_keepsHostSide hs ⟨rfl, rfl, rfl, rfl, rfl, rfl, rfl⟩ hs.memory ?_
  rw [State.getFlag_setFlag]
  split
  · next hu => exact h hu.symm
  · exact hs.unusedSet

theorem inv_hostReset {s : State} (hs : s.Inv) : s.hostReset.Inv :=
  inv_of_keepsHostSide hs ⟨rfl, rfl, rfl, rfl, rfl, rfl, rfl⟩ hs.memory (by decide : statusFlag 0x20#8 .u = true)

/-- With interrupt lines the invariant leaves the interrupt state free (R38). -/
theorem inv_interruptState {s : State} (hs : s.Inv) (h : s.params.hasInterruptLines = true) (irq nmi pending : Bool) :
    { s with irqLine := irq, nmiLine := nmi, nmiPending := pending }.Inv :=
  ⟨hs.memory, hs.unusedSet, hs.oneMark, fun hno => absurd (h.symm.trans hno) (by decide)⟩

theorem inv_driveIrq {s : State} (hs : s.Inv) (level : Bool) : (s.driveIrq level).Inv := by
  rcases Bool.eq_false_or_eq_true s.params.hasInterruptLines with h | h
  · rw [State.driveIrq_of_lines h]
    exact inv_interruptState hs h level s.nmiLine s.nmiPending
  · rwa [State.driveIrq_of_noLines h]

theorem inv_driveNmi {s : State} (hs : s.Inv) (level : Bool) : (s.driveNmi level).Inv := by
  rcases Bool.eq_false_or_eq_true s.params.hasInterruptLines with h | h
  · rw [State.driveNmi_of_lines h]
    exact inv_interruptState hs h s.irqLine level _
  · rwa [State.driveNmi_of_noLines h]

theorem inv_connect {s : State} (hs : s.Inv) (hasReference : Bool) : (s.connect hasReference).1.Inv := by
  cases hasReference with
  | false => exact hs
  | true => exact ⟨hs.memory, hs.unusedSet, hs.oneMark, hs.noLines⟩

/-! What driving a line leaves unchanged (R206). -/

theorem State.driveIrq_eq (s : State) (level : Bool) :
    s.driveIrq level = { s with irqLine := (s.driveIrq level).irqLine } := by
  rcases Bool.eq_false_or_eq_true s.params.hasInterruptLines with h | h
  · rw [State.driveIrq_of_lines h]
  · rw [State.driveIrq_of_noLines h]

theorem State.driveNmi_eq (s : State) (level : Bool) :
    s.driveNmi level =
      { s with nmiLine := (s.driveNmi level).nmiLine, nmiPending := (s.driveNmi level).nmiPending } := by
  rcases Bool.eq_false_or_eq_true s.params.hasInterruptLines with h | h
  · rw [State.driveNmi_of_lines h]
  · rw [State.driveNmi_of_noLines h]

end Sys2Proof.Machine
end

section
/-! PROOFS. The statements of 60_exceptions.md: interrupt entry, the marks a tick records, and the host's moves. -/

namespace Sys2Proof.Machine

/-- Settles O38: the entry is the shared exception entry with the status an interrupt pushes. -/
theorem interruptEntrySavesAndVectors : Obligations.InterruptEntrySavesAndVectors := by
  intro s vector hr h0 hc hl htaken
  refine ⟨_, step_interrupt hr h0 hc (pendingInterrupt_eq_some_iff.2 ⟨hl, htaken⟩), ?_,
    interruptEntry_countDown_getFlag vector s⟩
  have hcleared : (if vector = nmiVector then false else s.nmiPending) = false := by
    rcases htaken with ⟨-, rfl⟩ | ⟨hn, -⟩
    · rfl
    · rw [hn, ite_self]
  have habove : 0x200 ≤ vector.toNat ∧ 0x200 ≤ (vector + 1).toNat := by
    rcases htaken with ⟨-, rfl⟩ | ⟨-, -, -, rfl⟩ <;> decide
  rw [interruptEntry_countDown_visible, hcleared, State.enterException_visible s _ habove.1 habove.2,
    State.countDown_p, interruptEntry_p, State.push16_push_mem]
  simp only [joinBytes_stackPage]
  rfl

/-- Settles O42, by the cases of a tick: only a tick without the connection and an undocumented fetch write a mark. -/
theorem marksAreRecordedForTheirCauseOnly : Obligations.MarksAreRecordedForTheirCauseOnly := by
  intro s t h
  obtain ⟨⟨hf, hr⟩, ⟨_, rfl⟩ | ⟨_, hc, rfl⟩ | ⟨_, _, v, _, rfl⟩ | ⟨h0, hc, _, u, hu, rfl⟩⟩ := step_cases h
  · simp [hf, hr]
  · exact ⟨fun _ => ⟨hc, rfl⟩, fun hne => absurd hr hne⟩
  · simp [hf, hr]
  · rcases exec_cases hu with ⟨hno, _⟩ | ⟨_, op, hop, rfl⟩ | ⟨_, op, hop, rfl⟩
    · exact absurd (hc.symm.trans hno) (by decide)
    · obtain ⟨rfl, hmem⟩ := read_pc_of_fetchInstr hop
      rcases undocumentedFetch_cases (s.read s.pc) s with ⟨hp, e⟩ | ⟨_, n, e⟩
      · rw [e, State.countDown_of_zero { s with refused := some ⟨s.read s.pc, s.pc⟩ } h0]
        exact ⟨fun hne => absurd hf hne, fun _ => ⟨hp, hmem, rfl⟩⟩
      · simp [e, hf, hr]
    · have k := runOperation_keepsHostSide hop s
      rw [State.countDown_fault, State.countDown_refused, k.fault, k.refused, hf, hr]
      exact ⟨fun hne => absurd rfl hne, fun hne => absurd rfl hne⟩

/-- Settles O39: without an interrupt to take, an Idle tick is a fetch tick. -/
theorem maskedOrAbsentInterruptsFetch : Obligations.MaskedOrAbsentInterruptsFetch := by
  intro s hr h0 hnone
  rw [step_idle hr h0, idleTick, pendingInterrupt_eq_none_iff.2 hnone]

/-- Settles O40: an Idle tick without the connection answers, and by the cases of a tick only with the mark. -/
theorem unconnectedTickRecordsTheFault : Obligations.UnconnectedTickRecordsTheFault := by
  intro s hr h0 hc
  obtain ⟨t, ht⟩ := (ticksAnswerExactlyWhileRunning s).2 hr
  refine ⟨?_, rfl⟩
  obtain ⟨-, ⟨hpos, -⟩ | ⟨-, -, rfl⟩ | ⟨-, hyes, -⟩ | ⟨-, hyes, -⟩⟩ := step_cases ht
  · exact absurd h0 hpos
  · exact ht
  · exact absurd (hc.symm.trans hyes) (by decide)
  · exact absurd (hc.symm.trans hyes) (by decide)

/-- Settles O55, move by move. -/
theorem hostMovesKeepTheInvariant : Obligations.HostMovesKeepTheInvariant := by
  intro s hs
  refine ⟨fun move hmove => ?_, inv_connect hs⟩
  cases move with
  | busWrite addr v => exact inv_write hs addr v
  | setFlag f b =>
    refine inv_setFlag hs fun hu => ?_
    rw [hu] at hmove
    cases b with
    | false => exact absurd rfl hmove
    | true => rfl
  | reset => exact inv_hostReset hs
  | driveIrq level => exact inv_driveIrq hs level
  | driveNmi level => exact inv_driveNmi hs level

/-- Settles O58, move by move. -/
theorem hostWritesNoOtherRegister : Obligations.HostWritesNoOtherRegister := by
  refine ⟨fun s move hmove => ?_, fun s => ⟨rfl, rfl⟩⟩
  cases move with
  | busWrite addr v => exact ⟨rfl, rfl, rfl, rfl, rfl, rfl, fun _ => rfl⟩
  | setFlag f b => exact ⟨rfl, rfl, rfl, rfl, rfl, rfl, fun hne => absurd rfl (hne f b)⟩
  | reset => exact absurd rfl hmove
  | driveIrq level =>
    rw [State.hostMove, s.driveIrq_eq level]
    exact ⟨rfl, rfl, rfl, rfl, rfl, rfl, fun _ => rfl⟩
  | driveNmi level =>
    rw [State.hostMove, s.driveNmi_eq level]
    exact ⟨rfl, rfl, rfl, rfl, rfl, rfl, fun _ => rfl⟩

/-- Settles O60: a line is written as driven, and only its change from 0 to 1 is a new edge. -/
theorem linesAreDrivenByTheHost : Obligations.LinesAreDrivenByTheHost := by
  intro s level
  refine ⟨fun h => ?_, fun h => ⟨State.driveIrq_of_noLines h level, State.driveNmi_of_noLines h level⟩⟩
  rw [State.driveIrq_of_lines h, State.driveNmi_of_lines h]
  simp [and_comm]

end Sys2Proof.Machine
end

section
/-! SUPPORT. Base counts by class, read off the dispatch table (R72, R232), and the page-cross cycle (R94, R96). -/

namespace Sys2Proof

open Sys2Proof.Machine

/-- A documented instruction has the row of its opcode's table entry, with operand bytes 0. -/
theorem encodingRow_eq_of_opcode {i : Instr} (h : i.mnemonic ≠ .undocumented) :
    i.encodingRow = (decodeWindow i.opcode 0 0).encodingRow := by
  obtain ⟨b1, b2, hdec, -⟩ := exists_operand_bytes (wellFormed_of_documented h)
  exact (congrArg Instr.encodingRow hdec).trans (encodingRow_decodeWindow ..)

/-- A claim about mnemonic, mode and base count holds of every instruction of the documented mnemonics `ms` when it
holds of the table's own instructions, with operand bytes 0. -/
theorem mode_baseCycles_of_table {ms : List Mnemonic} {claim : Mode → Nat → Prop}
    (hms : Mnemonic.undocumented ∉ ms)
    (htable : ∀ op, (decodeWindow op 0 0).mnemonic ∈ ms →
      claim (decodeWindow op 0 0).operand.mode (decodeWindow op 0 0).baseCycles.toNat)
    {i : Instr} (hi : i.mnemonic ∈ ms) : claim i.operand.mode i.baseCycles.toNat := by
  have hrow := encodingRow_eq_of_opcode fun hu => hms (hu ▸ hi)
  simp only [Instr.encodingRow, Prod.mk.injEq] at hrow
  obtain ⟨hmnemonic, -, hmode, -, hbase⟩ := hrow
  rw [hmode, hbase]
  exact htable i.opcode (hmnemonic ▸ hi)

/-- The mode and base count of a class are among `rows`. -/
theorem mode_baseCycles_mem_of_table {ms : List Mnemonic} {rows : List (Mode × Nat)}
    (h : Mnemonic.undocumented ∉ ms ∧ ∀ op, (decodeWindow op 0 0).mnemonic ∈ ms →
      ((decodeWindow op 0 0).operand.mode, (decodeWindow op 0 0).baseCycles.toNat) ∈ rows)
    (i : Instr) (hi : i.mnemonic ∈ ms) : (i.operand.mode, i.baseCycles.toNat) ∈ rows :=
  mode_baseCycles_of_table (claim := fun mode n => (mode, n) ∈ rows) h.1 h.2 hi

/-- A class has the one base count `n`, whatever the mode. -/
theorem baseCycles_eq_of_table {ms : List Mnemonic} {n : Byte}
    (h : Mnemonic.undocumented ∉ ms ∧ ∀ op, (decodeWindow op 0 0).mnemonic ∈ ms →
      (decodeWindow op 0 0).baseCycles.toNat = n.toNat)
    (i : Instr) (hi : i.mnemonic ∈ ms) : i.baseCycles = n :=
  BitVec.eq_of_toNat_eq (mode_baseCycles_of_table (claim := fun _ k => k = n.toNat) h.1 h.2 hi)

/-- A mode that reports a page cross is one of the three indexed ones of R87. -/
theorem mode_of_extraCycle {m : Operand} {s : State} (h : m.extraCycle s = true) :
    m.mode ∈ [Mode.abx, .aby, .izy] := by
  cases m with
  | abx _ | aby _ | izy _ => simp [Operand.mode]
  | _ => cases h

/-- The page-cross cycle is charged when mode and operation both report it, and it is 1 (R96). -/
theorem reports_of_pageCycle_ne_zero {i : Instr} {s : State} (h : i.pageCycle s ≠ 0) :
    i.operand.extraCycle (i.entry s) = true ∧ i.mnemonic.reportsExtra = true ∧ i.pageCycle s = 1 := by
  rcases hb : i.operand.extraCycle (i.entry s) && i.mnemonic.reportsExtra with _ | _
  · exact absurd (congrArg bit hb) h
  · obtain ⟨hmode, hmnemonic⟩ := Bool.and_eq_true_iff.1 hb
    exact ⟨hmode, hmnemonic, congrArg bit hb⟩

end Sys2Proof
end

section
/-! SUPPORT. What an instruction starts from forgets the counter (R95), and the state at power-on and after the host's
reset (R220, R221). -/

namespace Sys2Proof.Machine

/-- The base count overwrites the counter the fetch finds (R95). -/
theorem entry_with_cycles (i : Instr) (s : State) (n : Byte) : i.entry { s with cycles := n } = i.entry s := rfl

/-- All memory is 0x00 at power-on (R220). -/
@[simp] theorem State.powerOn_read (params : Params) (addr : Addr) : (State.powerOn params).read addr = 0x00#8 := rfl

/-- An all-zero memory gives 0x0000 through the reset vector, as through any other (R220). -/
theorem State.powerOn_read16 (params : Params) (addr : Addr) : (State.powerOn params).read16 addr = 0x0000#16 := by
  rw [State.read16, State.powerOn_read, State.powerOn_read]
  rfl

theorem State.powerOn_pc_of_constant {params : Params} {pc : Addr} (h : params.resetPcSource = .constant pc) :
    (State.powerOn params).pc = pc := congrArg State.powerOnPc h

theorem State.powerOn_pc_of_vector {params : Params} (h : params.resetPcSource = .vector) :
    (State.powerOn params).pc = (State.powerOn params).read16 0xFFFC#16 :=
  (congrArg State.powerOnPc h).trans (State.powerOn_read16 ..).symm

theorem inv_powerOn (params : Params) : (State.powerOn params).Inv :=
  ⟨Memory.wf_nil, (by decide : statusFlag 0x20#8 .u = true), .inl rfl, fun _ => ⟨rfl, rfl, rfl⟩⟩

theorem State.resetPc_of_constant {s : State} {pc : Addr} (h : s.params.resetPcSource = .constant pc) :
    s.resetPc = pc := by
  rw [State.resetPc, h]

theorem State.resetPc_of_vector {s : State} (h : s.params.resetPcSource = .vector) :
    s.resetPc = joinBytes (s.read 0xFFFD#16) (s.read 0xFFFC#16) := by
  rw [State.resetPc, h]
  rfl

end Sys2Proof.Machine
end

section
/-! PROOFS. The statements of 70_reset_and_hazards.md: base counts by class, independence of the counter, power-on and
the host's reset. -/

namespace Sys2Proof.Machine

/-- Settles O9: the classes are read off the dispatch table; the page-cross cycle needs the report of mode and
operation. -/
theorem baseCountsByClass : Obligations.BaseCountsByClass := by
  refine ⟨mode_baseCycles_mem_of_table (by decide), mode_baseCycles_mem_of_table (by decide),
    mode_baseCycles_mem_of_table (by decide), baseCycles_eq_of_table (by decide), baseCycles_eq_of_table (by decide),
    baseCycles_eq_of_table (by decide),
    fun i hi => mode_baseCycles_mem_of_table (by decide) i (List.mem_singleton.2 hi),
    baseCycles_eq_of_table (by decide),
    fun i hi => baseCycles_eq_of_table (by decide) i (List.mem_singleton.2 hi), fun i hi => ?_, fun i s hne => ?_⟩
  · obtain ⟨c, hc⟩ := Option.isSome_iff_exists.1 hi
    exact ⟨baseCycles_of_branch hc, mode_eq_rel_iff.2 hi⟩
  · obtain ⟨hmode, hreports, hone⟩ := reports_of_pageCycle_ne_zero hne
    exact ⟨List.contains_iff_mem.1 hreports, mode_of_extraCycle hmode, hone⟩

/-- Settles O50: the fetch overwrites the counter before the operation runs. -/
theorem resultsDoNotDependOnTheCounter : Obligations.ResultsDoNotDependOnTheCounter := by
  intro i s n hmn hc
  obtain ⟨op, hop⟩ | ⟨op, rfl⟩ := documented_or_not i
  · calc exec i { s with cycles := n }
      _ = .next (runOperation i.operand op (i.entry { s with cycles := n })) := exec_connected hc hop
      _ = .next (runOperation i.operand op (i.entry s)) := by rw [entry_with_cycles]
      _ = exec i s := (exec_connected hc hop).symm
  · exact absurd rfl hmn

/-- Settles O51: reset is the power-on state at the default parameters. -/
theorem resetMeetsTheInvariant : Obligations.ResetMeetsTheInvariant :=
  ⟨inv_powerOn _, inv_powerOn⟩

/-- Settles O56: the fields by the definition of the power-on state, PC by its source. -/
theorem powerOnValues : Obligations.PowerOnValues :=
  ⟨fun params => ⟨rfl, rfl, rfl, rfl, rfl, rfl, rfl, rfl, rfl, rfl, rfl, rfl, rfl, rfl, rfl, rfl, rfl, rfl,
   State.powerOn_read params, fun _ => State.powerOn_pc_of_constant, State.powerOn_pc_of_vector⟩, rfl⟩

/-- Settles O57: the fields by the definition of the reset, PC by its source. -/
theorem hostResetRestoresRegisters : Obligations.HostResetRestoresRegisters := fun _ =>
  ⟨rfl, rfl, rfl, rfl, rfl, rfl, rfl, rfl, rfl, rfl, rfl, rfl, rfl, rfl,
   fun _ => State.resetPc_of_constant, State.resetPc_of_vector⟩

end Sys2Proof.Machine
end
